-- ==== Sys2Proof/Word.lean ====
section
/-! DEFINITION. The machine's words: bytes, the 16-bit CRC and the 3-bit sequence numbers (00_scope.md R10, R11). -/

namespace Sys2Proof

/-- One 8-bit byte, bit 7 the most significant (R10): the unit of storage and of transfer (R70). -/
abbrev Byte := BitVec 8

/-- The running 16-bit CRC (R140). -/
abbrev CrcWord := BitVec 16

/-- A sequence number, three bits, arithmetic modulo 8 (R11, R25). -/
abbrev SeqNum := BitVec 3

/-- A payload: an opaque byte sequence (R5). -/
abbrev Payload := List Byte

end Sys2Proof
end

