-- ==== Sys2Proof/Syntax.lean ====
section
/-! DEFINITION. The instructions: one constructor for each row of spec/opcode_table.json. -/

namespace Sys2Proof

/-- The rows of the opcode table. The first six are control bytes, which select the type of a frame
(30_encoding.md R104 to R108); the last seven are the reserved line bytes (R102). -/
inductive Instr where
  /-- `0 FFF R AAA` (R105) -/
  | data (frmNum : SeqNum) (rFlag : Bool) (ackNum : SeqNum)
  /-- `100 P N AAA` (R106) -/
  | ack (p : Bool) (nFlag : Bool) (ackNum : SeqNum)
  /-- `101 P N AAA` (R107) -/
  | nak (p : Bool) (nFlag : Bool) (ackNum : SeqNum)
  /-- `1100 0000` (R108) -/
  | rst
  /-- `1100 0001` (R108) -/
  | rstack
  /-- `1100 0010` (R108) -/
  | error
  /-- 0x7E: ends a frame -/
  | flag
  /-- 0x7D: the next data byte is unstuffed -/
  | escape
  /-- 0x11 -/
  | xon
  /-- 0x13 -/
  | xoff
  /-- 0x18: a byte received in error -/
  | substitute
  /-- 0x1A: aborts the frame -/
  | cancel
  /-- 0xFF: between frames only -/
  | wake
deriving DecidableEq, Repr

/-- The two contexts in which a byte is read: as it travels on the line (R102), or as byte 0 of a frame after
unstuffing (R104). -/
inductive Level where
  | control
  | line
deriving DecidableEq, Repr

/-- The context a row of the table belongs to (its "format"). -/
def Instr.level : Instr → Level
  | .data _ _ _ => .control
  | .ack _ _ _ => .control
  | .nak _ _ _ => .control
  | .rst => .control
  | .rstack => .control
  | .error => .control
  | .flag => .line
  | .escape => .line
  | .xon => .line
  | .xoff => .line
  | .substitute => .line
  | .cancel => .line
  | .wake => .line

end Sys2Proof
end

