-- ==== Sys2Proof/Decode.lean ====
section
/-! DEFINITION. Decoding a byte into an instruction, at the line level (30_encoding.md R102, 40_codec.md R156)
and at the control level (R104), the reading of a table word, and the encoder. -/

namespace Sys2Proof

/-- Why a byte is no instruction of the level it is read at. -/
inductive NotAnInstr where
  /-- a line byte that is none of the seven reserved values: a data byte (R167) -/
  | dataByte
  /-- a control byte 0xC3..0xFF, which belongs to no type (R104, R113) -/
  | unassignedControl
deriving DecidableEq, Repr

/-- A line byte, recognised in the order of R156. -/
def decodeLine (b : Byte) : Except NotAnInstr Instr :=
  if b = 0x7E#8 then .ok .flag
  else if b = 0x1A#8 then .ok .cancel
  else if b = 0x11#8 then .ok .xon
  else if b = 0x13#8 then .ok .xoff
  else if b = 0x18#8 then .ok .substitute
  else if b = 0x7D#8 then .ok .escape
  else if b = 0xFF#8 then .ok .wake
  else .error .dataByte

/-- Bits `[6:4]` of a control byte: `frmNum` (R105). -/
def ctlFrmNum (c : Byte) : SeqNum := c.extractLsb' 4 3

/-- Bits `[2:0]` of a control byte: `ackNum` (R105 to R107). -/
def ctlAckNum (c : Byte) : SeqNum := c.extractLsb' 0 3

/-- Bit 3 of a control byte: rFlag of DATA, nFlag of ACK and NAK. -/
def ctlBit3 (c : Byte) : Bool := c.getLsbD 3

/-- Bit 4 of a control byte: `P` of ACK and NAK. -/
def ctlBit4 (c : Byte) : Bool := c.getLsbD 4

/-- A control byte, by the masks and matches of the table of R104. -/
def decodeControl (c : Byte) : Except NotAnInstr Instr :=
  if c &&& 0x80#8 = 0x00#8 then .ok (.data (ctlFrmNum c) (ctlBit3 c) (ctlAckNum c))
  else if c &&& 0xE0#8 = 0x80#8 then .ok (.ack (ctlBit4 c) (ctlBit3 c) (ctlAckNum c))
  else if c &&& 0xE0#8 = 0xA0#8 then .ok (.nak (ctlBit4 c) (ctlBit3 c) (ctlAckNum c))
  else if c = 0xC0#8 then .ok .rst
  else if c = 0xC1#8 then .ok .rstack
  else if c = 0xC2#8 then .ok .error
  else .error .unassignedControl

/-- A byte of the table with no frame around it. A byte travels on the line first, so the reserved line values
are recognised first (R156; log entry 6); any other byte is read as a control byte. -/
def decodeWord (b : Byte) : Except NotAnInstr Instr :=
  match decodeLine b with
  | .ok i => .ok i
  | .error _ => decodeControl b

/-- The bytes of a table word, the first the least significant (every row of the table has one). -/
def tableBytes (nbits w : Nat) : List Byte :=
  (List.range (nbits / 8)).map fun i => BitVec.ofNat 8 (w >>> (8 * i))

/-- The instruction the decoder reads from a table word. -/
def decodeTableWord (nbits w : Nat) : Option Instr :=
  match tableBytes nbits w with
  | [] => none
  | b :: _ => (decodeWord b).toOption

/-- One bit at place `k` of a byte. -/
def bitAt (b : Bool) (k : Nat) : Byte := (BitVec.ofBool b).setWidth 8 <<< k

/-- A three-bit field at place `k` of a byte. -/
def seqAt (x : SeqNum) (k : Nat) : Byte := x.setWidth 8 <<< k

/-- The byte of an instruction: the assemblies of R105, R106, R107, the values of R108 and R102. -/
def encode : Instr → Byte
  | .data f r a => seqAt f 4 ||| bitAt r 3 ||| seqAt a 0
  | .ack p n a => 0x80#8 ||| bitAt p 4 ||| bitAt n 3 ||| seqAt a 0
  | .nak p n a => 0xA0#8 ||| bitAt p 4 ||| bitAt n 3 ||| seqAt a 0
  | .rst => 0xC0#8
  | .rstack => 0xC1#8
  | .error => 0xC2#8
  | .flag => 0x7E#8
  | .escape => 0x7D#8
  | .xon => 0x11#8
  | .xoff => 0x13#8
  | .substitute => 0x18#8
  | .cancel => 0x1A#8
  | .wake => 0xFF#8

/-- The decoder of an instruction's own level. -/
def decodeAt : Level → Byte → Except NotAnInstr Instr
  | .control => decodeControl
  | .line => decodeLine

end Sys2Proof
end

