-- ==== Sys2Proof/Config.lean ====
section
/-! DEFINITION. What an implementation fixes: the parameters of 00_scope.md R8 with their ranges, the CRC-16
variant left open by 40_codec.md R140, and the free values for contents that 93_implementation_defined.md U11 leaves open. -/

namespace Sys2Proof

/-- The CRC-16 variant (R140: `crc16Init` and `crc16Step` are parameters of the model). `ccittFalse` is the default
of R141; `other id` is any other variant, about which nothing is known (log entry 2). -/
inductive CrcVariant where
  | ccittFalse
  | other (id : Nat)
deriving DecidableEq, Repr

/-- The start value of a variant other than the default: a free value (log entry 2). -/
opaque Config.otherCrcInit : Nat → CrcWord

/-- The step function of a variant other than the default: a free value (log entry 2). -/
opaque Config.otherCrcStep : Nat → CrcWord → Byte → CrcWord

/-- What `encBody` holds where U11 leaves it open; the argument counts the draws (log entry 10). -/
opaque Config.freeEncBody : Nat → List Byte

/-- What `encIdx` holds where U11 leaves it open (log entry 10). -/
opaque Config.freeEncIdx : Nat → Nat

/-- What `encCrc` holds where U11 leaves it open (log entry 10). -/
opaque Config.freeEncCrc : Nat → CrcWord

/-- Byte `i` of `rxBuf` where U11 leaves it open, in draw `n` (log entry 10). -/
opaque Config.freeRxByte : (n i : Nat) → Byte

/-- The five reset reasons of R329; the input `resetReasonIn` is restricted to them (93 U8). -/
inductive ResetReason where
  | unknown
  | external
  | powerOn
  | bootloader
  | software
deriving DecidableEq, Repr

/-- The parameters of the table of R8, with the numeric codes of R110 and R111; times are in milliseconds.
Defaults are the spec's own (R8, R110, R111, R141), marked there as no values of the source (log entry 3). -/
structure RawParams where
  /-- window size K -/
  txK : Nat
  ackTimeInit : Nat
  ackTimeMin : Nat
  ackTimeMax : Nat
  maxTimeouts : Nat
  rebootDelay : Nat
  nrTime : Nat
  maxDataLen : Nat := 128
  nTxSlots : Nat := 8
  ashVersion : Byte := 0x02#8
  crc : CrcVariant := .ccittFalse
  rsnUnknown : Byte := 0x00#8
  rsnExternal : Byte := 0x01#8
  rsnPowerOn : Byte := 0x02#8
  rsnBootloader : Byte := 0x09#8
  rsnSoftware : Byte := 0x0B#8
  errcTimeouts : Byte := 0x51#8
  errcPeerError : Byte := 0x5E#8
  errcNoLink : Byte := 0x5F#8
deriving DecidableEq, Repr

/-- The constraints of R8 and R413. -/
def RawParams.inRange (p : RawParams) : Bool :=
  decide (1 ≤ p.txK) && decide (p.txK ≤ 7) &&
  decide (1 ≤ p.ackTimeMin) && decide (p.ackTimeMin ≤ p.ackTimeInit) &&
  decide (p.ackTimeInit ≤ p.ackTimeMax) && decide (p.ackTimeMax ≤ 8191) &&
  decide (p.maxTimeouts ≤ 254) && decide (p.rebootDelay ≤ 65535) && decide (p.nrTime ≤ 65535) &&
  decide (p.maxDataLen ≤ 252) && decide (p.txK ≤ p.nTxSlots) && decide (p.nTxSlots ≤ 255)

/-- Parameters in range. The spec states its rules only for these (R413) and has a model refuse any others
(93 U7): a record out of range cannot be built (log entry 1). -/
structure Params extends RawParams where
  valid : toRawParams.inRange = true
deriving DecidableEq, Repr

/-- `MAX_FRAME_LEN = maxDataLen + 3` (R9). -/
def RawParams.maxFrameLen (p : RawParams) : Nat := p.maxDataLen + 3

/-- The code byte of a reset reason (R110). -/
def RawParams.reasonCode (p : RawParams) : ResetReason → Byte
  | .unknown => p.rsnUnknown
  | .external => p.rsnExternal
  | .powerOn => p.rsnPowerOn
  | .bootloader => p.rsnBootloader
  | .software => p.rsnSoftware

/-- Parameter set T of 95_test_vectors.md: the set `State.reset` carries. DESIGN CHOICE (log entry 1). -/
def Config.paramsT : Params :=
  { txK := 3, ackTimeInit := 800, ackTimeMin := 400, ackTimeMax := 2400, maxTimeouts := 3,
    rebootDelay := 50, nrTime := 480, valid := by decide }

end Sys2Proof
end

