-- ==== Sys2Proof/Machine/State.lean ====
section
/-! DEFINITION. The state of one engine (10_state.md R20), the environment it meets (R20, last sentence), the reasons
a step can stop, and the state after reset (70_reset_and_hazards.md R411). -/

namespace Sys2Proof.Machine

/-- Why the model stops. Each names a precondition the spec puts on a procedure and which no reachable state breaks
(60_exceptions.md R389: "There is no state in which the engine is stuck"; log entry 12). All are safe: they can only
make a true claim unprovable. -/
inductive Fault where
  /-- `head`, `dequeueHead` or `nth` outside the queue (20_memory.md R75 to R77). Raised by the transmit sequencer. Safe. -/
  | queueUnderflow
  /-- `encStart` with a frame in progress (40_codec.md R145). Raised by the start of a frame. Safe. -/
  | encoderBusy
  /-- `encNext` with no byte left, or past the body (R146). Raised by a sending step. Safe. -/
  | encoderEmpty
  /-- `completeFrame` with no frame in progress (42_arq_transmit.md R249). Raised by a sending step. Safe. -/
  | noFrameSending
  /-- `processFrame` with no frame (41_arq_receive.md R190). Raised by the fetch. Safe. -/
  | frameMissing
deriving DecidableEq, Repr

/-- Why the model gives an instruction no meaning. -/
inductive Refusal where
  /-- The instruction has no meaning yet. Raised by no arm of `exec`. Safe. -/
  | notModelled (mnemonic : String)
deriving DecidableEq, Repr

/-- `sendState` (R23). -/
inductive SendState where
  | idle
  | sendingShortFrame
  | sendingDataFrame
  | retransmittingDataFrame
deriving DecidableEq, Repr

/-- `encPhase` (R40). -/
inductive EncPhase where
  | body
  | crcHi
  | crcLo
  | flag
  | done
deriving DecidableEq, Repr

/-- A timer: `run` and `elapsed`, in milliseconds, saturating (R29). -/
structure Timer where
  run : Bool
  elapsed : BitVec 16
deriving DecidableEq, Repr

/-- The encoder registers (R40): `encBody`, `encIdx`, `encCrc`, `encEsc`, `encPhase`. -/
structure Encoder where
  body : List Byte
  idx : Nat
  crc : CrcWord
  esc : Option Byte
  phase : EncPhase
deriving DecidableEq, Repr

/-- The decoder registers (R42): `decFrame`, `decEsc`, `decErr`, `decOvf`, `decDrop`. -/
structure Decoder where
  frame : List Byte
  esc : Bool
  err : Bool
  ovf : Bool
  drop : Bool
deriving DecidableEq, Repr

/-- The 21 statuses (60_exceptions.md R381): names without numbers (R380). -/
inductive Status where
  | ok
  | inProgress
  | noRxData
  | notConnected
  | dataTooLong
  | noTxSpace
  | noRxSpace
  | cancelled
  | tooShort
  | tooLong
  | badCrc
  | commError
  | badControl
  | badAckNum
  | outOfSequence
  | duplicate
  | ackReceived
  | nakReceived
  | rstReceived
  | errorReceived
  | fatalTimeouts
deriving DecidableEq, Repr

/-- What an operation returned to its caller (46_operations.md R350). -/
inductive Return where
  | send (st : Status)
  | receive (st : Status) (payload : Option Payload)
  | sendExec (st : Status)
  | isTxSpaceAvailable (b : Bool)
  | isConnected (b : Bool)
  | rxRelease
deriving DecidableEq, Repr

/-- What can happen between two operations (00_scope.md R7): an operation of the caller, a tick, a reset, or an input
of the environment (log entry 5). -/
inductive Event where
  | send (payload : Payload) (high : Bool)
  | receive
  | sendExec
  | isTxSpaceAvailable
  | isConnected
  | rxRelease
  | tick (d : Nat)
  | hwReset
  /-- bytes reach the serial driver's incoming stream -/
  | bytesArrive (bytes : List Byte)
  /-- the answers the next calls of `writeAvailable()` give -/
  | writeAnswers (answers : List Bool)
  /-- the reset-reason input takes a value (R329) -/
  | setResetReason (r : ResetReason)
deriving DecidableEq, Repr

/-- Which part of an operation the next step runs. An operation is several steps of the model, and no event is taken
from `script` before it has returned (20_memory.md R83; log entry 4). -/
inductive Activity where
  /-- between operations -/
  | idle
  /-- inside `receive`, about to call `readByte` -/
  | receiving
  /-- inside `receive`, a frame has passed the codec and waits in `rxFrame` for `processFrame` -/
  | frameEnd
  /-- inside `sendExec`, about to call `writeAvailable`; `fatal` as in R353 -/
  | sending (fatal : Bool)
deriving DecidableEq, Repr

/-- The engine with its parameters, its environment and the model's own bookkeeping. -/
structure State where
  /-- the parameters (R8), which no step changes -/
  cfg : Params
  -- connection flags (R21)
  rej : Bool
  retx : Bool
  nak : Bool
  ack : Bool
  rstack : Bool
  error : Bool
  connected : Bool
  can : Bool
  -- send state (R23)
  sendState : SendState
  -- sequence counters (R25)
  ackRx : SeqNum
  ackTx : SeqNum
  frmTx : SeqNum
  frmReTx : SeqNum
  frmRx : SeqNum
  frmReTxHead : SeqNum
  -- scalar registers (R27)
  timeouts : BitVec 8
  ackPeriod : BitVec 13
  rstReason : Byte
  errCode : Byte
  peerErrCode : Byte
  peerXoff : Bool
  rxHeld : Bool
  txCtl : Byte
  txSrcHigh : Bool
  -- timers (R29)
  ackTimer : Timer
  nrTimer : Timer
  rebootTimer : Timer
  -- queues, oldest entry first (R30), and the receive buffer (R31)
  txHigh : List Payload
  txNorm : List Payload
  reTx : List Payload
  rxBuf : List Byte
  -- codec registers (R40, R42)
  enc : Encoder
  dec : Decoder
  -- the environment (R20, R70, R329)
  /-- incoming byte stream, next byte first -/
  lineIn : List Byte
  /-- outgoing byte stream, oldest byte first -/
  lineOut : List Byte
  /-- answers of `writeAvailable()` to come -/
  wrAnswers : List Bool
  resetReasonIn : ResetReason
  /-- events to come, next first -/
  script : List Event
  -- the model's own
  /-- what the operations returned, oldest first -/
  returns : List Return
  activity : Activity
  /-- the frame `processFrame` is to look at (its argument `f`, R190) -/
  rxFrame : List Byte
  /-- how many free values were drawn -/
  freeDraws : Nat
deriving DecidableEq, Repr

/-- A stopped timer at zero: the reset value of every timer (R29). -/
def Timer.zero : Timer := { run := false, elapsed := 0#16 }

/-- A timer just started: `(run, elapsed) <- (1, 0)` (R29). -/
def Timer.started : Timer := { run := true, elapsed := 0#16 }

/-- The encoder after reset: DONE, nothing pending (R40). The other three are unspecified there; their values here are
DESIGN CHOICE (log entry 9). -/
def Encoder.atReset : Encoder :=
  { body := [], idx := 0, crc := 0#16, esc := none, phase := .done }

/-- The decoder after reset: between frames (R42). -/
def Decoder.atReset : Decoder :=
  { frame := [], esc := false, err := false, ovf := false, drop := false }

/-- The machine right after reset, for given parameters: every element of the table of R411, the environment with
nothing to come. The contents of `rxBuf` and of three encoder registers are DESIGN CHOICE (log entry 9), the
environment's and the model's own fields too (log entries 4, 5, 11, 16, 17, 21). -/
def State.resetWith (p : Params) : State :=
  { cfg := p
    rej := false, retx := false, nak := false, ack := false
    rstack := false, error := false, connected := false, can := false
    sendState := .idle
    ackRx := 0#3, ackTx := 0#3, frmTx := 0#3, frmReTx := 0#3, frmRx := 0#3, frmReTxHead := 0#3
    timeouts := 0#8
    ackPeriod := BitVec.ofNat 13 p.ackTimeInit
    rstReason := p.rsnUnknown
    errCode := p.errcNoLink
    peerErrCode := 0#8
    peerXoff := false
    rxHeld := false
    txCtl := 0#8
    txSrcHigh := false
    ackTimer := Timer.zero, nrTimer := Timer.zero, rebootTimer := Timer.zero
    txHigh := [], txNorm := [], reTx := []
    rxBuf := List.replicate p.maxDataLen 0#8
    enc := Encoder.atReset
    dec := Decoder.atReset
    lineIn := [], lineOut := [], wrAnswers := [], resetReasonIn := .software, script := []
    returns := [], activity := .idle, rxFrame := [], freeDraws := 0 }

/-- The machine right after reset, with parameter set T (log entry 1). -/
def State.reset : State := State.resetWith Config.paramsT

end Sys2Proof.Machine
end

