-- ==== Sys2Proof/Machine/Operands.lean ====
section
/-! DEFINITION. Modulo-8 arithmetic (00_scope.md R11), the classification of a received frame (30_encoding.md R112) and
the operands an instruction finds in the frame (R105 to R111). -/

namespace Sys2Proof.Machine

/-- `inc8(x) = (x + 1) mod 8` (R11). -/
def inc8 (x : SeqNum) : SeqNum := x + 1#3

/-- `dist8(a, b) = (b - a) mod 8`: the steps from `a` forward to `b` (R11). -/
def dist8 (a b : SeqNum) : Nat := (b - a).toNat

/-- `within8(lo, x, hi)`: `x` lies in the closed range from `lo` forward to `hi` (R11). -/
def within8 (lo x hi : SeqNum) : Bool := decide (dist8 lo x ≤ dist8 lo hi)

/-- The class of a received frame (R112). -/
inductive FrameClass where
  | data
  | ack
  | nak
  | rst
  | error
  | invalid
deriving DecidableEq, Repr

/-- `classify(c, n)` for control byte `c` and frame length `n` (R112). -/
def classify (c : Byte) (n : Nat) : FrameClass :=
  if c.getLsbD 7 = false then .data
  else if c &&& 0xE0#8 = 0x80#8 then (if n = 3 then .ack else .invalid)
  else if c &&& 0xE0#8 = 0xA0#8 then (if n = 3 then .nak else .invalid)
  else if c = 0xC0#8 then (if n = 3 then .rst else .invalid)
  else if c = 0xC2#8 then (if n = 5 then .error else .invalid)
  else .invalid

/-- The class of a received frame whose control byte is that of `i`, of the length of the frame at hand. -/
def frameClass (i : Instr) (s : State) : FrameClass := classify (encode i) s.rxFrame.length

/-- The payload of a frame: `f[1 .. |f|-3]`, the frame less control byte and CRC (R203). -/
def framePayload (f : List Byte) : Payload := (f.drop 1).take (f.length - 3)

/-- `f[2]`, the code byte of an ERROR frame (R193, R194); read only of a frame of class ERROR, which has five bytes. -/
def frameCode (f : List Byte) : Byte := f.getD 2 0#8

/-- Frame slots in use: `|txHigh| + |txNorm| + |reTx|` (20_memory.md R74, 44_queues.md R301). -/
def slotsUsed (s : State) : Nat := s.txHigh.length + s.txNorm.length + s.reTx.length

end Sys2Proof.Machine
end

