-- ==== Sys2Proof/Machine/Flags.lean ====
section
/-! DEFINITION. The connection flags: the derived connection state (10_state.md R22), the reject procedure
(41_arq_receive.md R196), and the requests the receive side raises. -/

namespace Sys2Proof.Machine

/-- The three connection states (45_connection.md R320). -/
inductive ConnState where
  | disconnected
  | awaitingRstAck
  | connected
deriving DecidableEq, Repr

/-- The connection state is a function of `CONNECTED` and `RSTACK` (R22). -/
def connState (s : State) : ConnState :=
  if s.connected then .connected else if s.rstack then .awaitingRstAck else .disconnected

/-- `reject()` (R196): enter the reject condition and ask for one NAK. -/
def reject (s : State) : State :=
  if s.rej then s else { s with rej := true, nak := true }

/-- A forced ACK is to be sent: `ACK <- 1` (R204, R205). -/
def forceAck (s : State) : State := { s with ack := true }

end Sys2Proof.Machine
end

