-- ==== Sys2Proof/Machine/Codec.lean ====
section
/-! DEFINITION. The byte codec (40_codec.md): CRC-16, encoder, and what the decoder does with a data byte. -/

namespace Sys2Proof.Machine

/-- One shift of the default CRC step (R141). -/
def crcShift (crc : CrcWord) : CrcWord :=
  if crc.getLsbD 15 then (crc <<< 1) ^^^ 0x1021#16 else crc <<< 1

/-- The default CRC step: polynomial 0x1021, most significant bit first (R141). -/
def ccittStep (crc : CrcWord) (b : Byte) : CrcWord :=
  Nat.repeat crcShift 8 (crc ^^^ (b.setWidth 16 <<< 8))

/-- `crc16Init` (R140). -/
def crc16Init (p : RawParams) : CrcWord :=
  match p.crc with
  | .ccittFalse => 0xFFFF#16
  | .other id => Config.otherCrcInit id

/-- `crc16Step` (R140). -/
def crc16Step (p : RawParams) (crc : CrcWord) (b : Byte) : CrcWord :=
  match p.crc with
  | .ccittFalse => ccittStep crc b
  | .other id => Config.otherCrcStep id crc b

/-- `crc16(s)`: the fold of the step over the bytes (R140). -/
def crc16 (p : RawParams) (bytes : List Byte) : CrcWord :=
  bytes.foldl (crc16Step p) (crc16Init p)

/-- Bits 15:8. -/
def hiByte (w : CrcWord) : Byte := w.extractLsb' 8 8

/-- Bits 7:0. -/
def loByte (w : CrcWord) : Byte := w.extractLsb' 0 8

/-- The two CRC bytes of a body, high byte first (R143, 20_memory.md R80). -/
def crcBytes (p : RawParams) (body : List Byte) : List Byte :=
  [hiByte (crc16 p body), loByte (crc16 p body)]

/-- The checker: `crc16(f[0 .. n-3]) = (f[n-2] << 8) | f[n-1]` (R143). -/
def crcGood (p : RawParams) (f : List Byte) : Bool :=
  decide (crc16 p (f.take (f.length - 2)) =
    ((f.getD (f.length - 2) 0#8).setWidth 16 <<< 8) ||| (f.getD (f.length - 1) 0#8).setWidth 16)

/-- The set STUFFED of R144. -/
def isStuffed (b : Byte) : Bool :=
  b == 0x7E#8 || b == 0x7D#8 || b == 0x11#8 || b == 0x13#8 || b == 0x18#8 || b == 0x1A#8

/-- One byte on the line: itself, or ESCAPE and the byte xor 0x20 (R103, R144). -/
def stuffByte (b : Byte) : List Byte :=
  if isStuffed b then [0x7D#8, b ^^^ 0x20#8] else [b]

/-- `stuff(s)` (R144). -/
def stuff (bytes : List Byte) : List Byte := bytes.flatMap stuffByte

/-- `encodeFrame(body)` (R148). -/
def encodeFrame (p : RawParams) (body : List Byte) : List Byte :=
  stuff (body ++ crcBytes p body) ++ [0x7E#8]

/-- `encStart(body)` (R145). Writes every encoder register. -/
def encStart (p : RawParams) (body : List Byte) : Encoder :=
  { body := body, idx := 0, crc := crc16Init p, esc := none, phase := .body }

/-- The end of `encNext`: give the byte, or ESCAPE now and the xored byte at the next call (R146). -/
def encEmit (b : Byte) (e : Encoder) : Byte × Encoder :=
  if isStuffed b then (0x7D#8, { e with esc := some (b ^^^ 0x20#8) }) else (b, e)

/-- `encNext()` (R146): the next line byte of the frame. `none` where its precondition fails (phase DONE, or no body
byte left in phase BODY). -/
def encNext (p : RawParams) (e : Encoder) : Option (Byte × Encoder) :=
  match e.esc with
  | some v => some (v, { e with esc := none })
  | none =>
    match e.phase with
    | .body =>
      match e.body[e.idx]? with
      | none => none
      | some b =>
        some (encEmit b { e with
          crc := crc16Step p e.crc b
          idx := e.idx + 1
          phase := if e.idx + 1 = e.body.length then .crcHi else .body })
    | .crcHi => some (encEmit (hiByte e.crc) { e with phase := .crcLo })
    | .crcLo => some (encEmit (loByte e.crc) { e with phase := .flag })
    | .flag => some (0x7E#8, { e with phase := .done })
    | .done => none

/-- `encDone()` (R147). -/
def encDone (e : Encoder) : Bool := decide (e.phase = .done)

/-- `txWire` (10_state.md R41, R149): the line bytes of the frame in progress not yet written. -/
def txWire (p : RawParams) (e : Encoder) : List Byte :=
  match e.phase with
  | .done => e.esc.toList
  | .body =>
    let rest := e.body.drop e.idx
    let crc := rest.foldl (crc16Step p) e.crc
    e.esc.toList ++ stuff (rest ++ [hiByte crc, loByte crc]) ++ [0x7E#8]
  | .crcHi => e.esc.toList ++ stuff [hiByte e.crc, loByte e.crc] ++ [0x7E#8]
  | .crcLo => e.esc.toList ++ stuff [loByte e.crc] ++ [0x7E#8]
  | .flag => e.esc.toList ++ [0x7E#8]

/-- `decActive`: a frame is being assembled (10_state.md R43). -/
def decActive (d : Decoder) : Bool := !d.frame.isEmpty || d.err || d.esc

/-- The decoder registers that FLAG and CANCEL clear: all but `decDrop` (R157, R161). -/
def decClear (d : Decoder) : Decoder :=
  { d with frame := [], esc := false, err := false, ovf := false }

/-- Storage of the frame being assembled (20_memory.md R73). `n` frame bytes are held when one more arrives: byte
`n - 2` leaves the two-byte delay line and, when the buffer is the engine's to write, goes to the next free position. -/
def storeLeaving (d : Decoder) (buf : List Byte) : List Byte :=
  if d.drop = false ∧ 3 ≤ d.frame.length then
    buf.set (d.frame.length - 3) (d.frame.getD (d.frame.length - 2) 0#8)
  else buf

/-- The decoder takes a data byte (R167 to R170). -/
def dataByte (b : Byte) (s : State) : State :=
  if s.dec.err then s
  else
    let v := if s.dec.esc then b ^^^ 0x20#8 else b
    let drop := if s.dec.frame.isEmpty then s.rxHeld else s.dec.drop
    let d := { s.dec with esc := false, drop := drop }
    if s.dec.frame.length < s.cfg.maxFrameLen then
      { s with dec := { d with frame := s.dec.frame ++ [v] }, rxBuf := storeLeaving d s.rxBuf }
    else { s with dec := { d with ovf := true } }

end Sys2Proof.Machine
end

