-- ==== Sys2Proof/Machine/Ops.lean ====
section
/-! DEFINITION. The shared procedures (00_scope.md R13): the ends of operations, queues, timers, the link resets
(45_connection.md: taking the link down is the nearest thing to an exception, 60_exceptions.md R386; the received RST
starts the way back, R388), and the receive procedures frames share (41_arq_receive.md). -/

namespace Sys2Proof.Machine

/-! ### Ends of operations -/

/-- An operation returns to its caller. -/
def finish (r : Return) (s : State) : State :=
  { s with activity := .idle, rxFrame := [], returns := s.returns ++ [r] }

/-- `receive` returns a status and, for an accepted DATA frame, a payload (46_operations.md R352). -/
def finishReceive (st : Status) (payload : Option Payload) (s : State) : State :=
  finish (.receive st payload) s

/-- `writeByte(b)`: append `b` to the outgoing stream (46_operations.md R357). -/
def writeByte (b : Byte) (s : State) : State := { s with lineOut := s.lineOut ++ [b] }

/-! ### Queues (20_memory.md R74 to R79) -/

/-- `enqueue(q, p)` (R74). -/
def enqueue (q : List Payload) (p : Payload) : List Payload := q ++ [p]

/-- `nth(q, i)`, defined only when `i < |q|` (R77); `head(q)` is `nth(q, 0)` (R75). -/
def nth (q : List Payload) (i : Nat) : Option Payload := q[i]?

/-- `release(q, n)`: remove the `n` oldest entries (R78). -/
def release (q : List Payload) (n : Nat) : List Payload := q.drop n

/-! ### Timers -/

/-- `run <- 0`; `elapsed` stays (R29). -/
def Timer.stop (t : Timer) : Timer := { t with run := false }

/-- A timer moves by `d` ms if it runs, saturating (43_timers.md R270). -/
def Timer.advance (d : Nat) (t : Timer) : Timer :=
  if t.run then { t with elapsed := BitVec.ofNat 16 (min 65535 (t.elapsed.toNat + d)) } else t

/-- A timer has expired: it runs and `elapsed >= period` (R29). -/
def Timer.expired (t : Timer) (period : Nat) : Bool := t.run && decide (period ≤ t.elapsed.toNat)

/-- Start the timer unless it runs already (42_arq_transmit.md R251, R252). -/
def Timer.startIfStopped (t : Timer) : Timer := if t.run then t else Timer.started

/-- `adjustAckPeriod(expired = true)` (43_timers.md R273). -/
def backoffPeriod (p : RawParams) (period : BitVec 13) : BitVec 13 :=
  BitVec.ofNat 13 (min (2 * period.toNat) p.ackTimeMax)

/-- `adjustAckPeriod(expired = false)`, with the time the ACK timer measured (R274). -/
def smoothPeriod (p : RawParams) (period : BitVec 13) (elapsed : BitVec 16) : BitVec 13 :=
  BitVec.ofNat 13 (max p.ackTimeMin (min p.ackTimeMax ((7 * period.toNat + 4 * elapsed.toNat) / 8)))

/-! ### Link resets (45_connection.md) -/

/-- `initLink()`: everything that belongs to one connection goes back to its starting value (R324). -/
def initLink (s : State) : State :=
  { s with
    rej := false, retx := false, nak := false, ack := false
    sendState := .idle
    enc := { s.enc with phase := .done, esc := none }
    ackRx := 0#3, ackTx := 0#3, frmTx := 0#3, frmReTx := 0#3, frmRx := 0#3, frmReTxHead := 0#3
    timeouts := 0#8
    ackPeriod := BitVec.ofNat 13 s.cfg.ackTimeInit
    ackTimer := Timer.zero, nrTimer := Timer.zero, rebootTimer := Timer.zero
    txHigh := [], txNorm := [], reTx := []
    txCtl := 0#8, txSrcHigh := false }

/-- A CANCEL byte is owed if a frame was part-sent; otherwise `CAN` is left alone (R327). -/
def canAfterAbandon (s : State) : Bool := s.can || decide (s.sendState ≠ .idle)

/-- `reinitOnRst()`: the whole effect of a received RST (R325). -/
def reinitOnRst (s : State) : State :=
  { initLink s with
    connected := false
    error := false
    rstack := true
    rstReason := s.cfg.reasonCode s.resetReasonIn
    rebootTimer := Timer.started
    can := canAfterAbandon s }

/-- `linkDown(code, sendError)`: the fatal event (R326, 60_exceptions.md R386). `errCode` saves the cause. -/
def linkDown (code : Byte) (sendError : Bool) (s : State) : State :=
  { initLink s with
    connected := false
    rstack := false
    errCode := code
    error := sendError
    can := canAfterAbandon s }

/-! ### Free values (93_implementation_defined.md U11; log entry 10) -/

/-- `encBody`, `encIdx` and `encCrc` hold any value from here on. -/
def Encoder.scrambled (n : Nat) (e : Encoder) : Encoder :=
  { e with body := Config.freeEncBody n, idx := Config.freeEncIdx n, crc := Config.freeEncCrc n }

/-- A receive buffer of `len` bytes of any value. -/
def freeRxBuf (n len : Nat) : List Byte := (List.range len).map (Config.freeRxByte n)

/-- `hwReset` (70_reset_and_hazards.md R410); the elements the table of R411 calls unspecified get free values. -/
def hwReset (s : State) : State :=
  { initLink s with
    connected := false, rstack := false, error := false, can := false
    rstReason := s.cfg.rsnUnknown
    errCode := s.cfg.errcNoLink
    peerErrCode := 0#8
    peerXoff := false
    rxHeld := false
    dec := Decoder.atReset
    enc := Encoder.scrambled s.freeDraws { s.enc with phase := .done, esc := none }
    rxBuf := freeRxBuf s.freeDraws s.cfg.maxDataLen
    freeDraws := s.freeDraws + 1 }

/-! ### Receive procedures shared by frames (41_arq_receive.md) -/

/-- `codecError(st)`: a fragment or frame the codec rejected (R191). -/
def codecError (st : Status) (s : State) : State :=
  finishReceive st none (if s.connected = true ∧ st ≠ .cancelled then reject s else s)

/-- `notConnected(cls, f)` (R193). -/
def notConnected (cls : FrameClass) (s : State) : State :=
  if s.rstack then finishReceive .notConnected none s
  else if cls = .error then
    finishReceive .errorReceived none { s with peerErrCode := frameCode s.rxFrame }
  else finishReceive .notConnected none { s with error := true }

/-- A frame of class INVALID: `invalidReceived()` while Connected (R195), else `notConnected` (R190, R193). -/
def invalidFrame (s : State) : State :=
  if s.connected then finishReceive .badControl none (reject s) else notConnected .invalid s

/-- `handleAck(a)`, for an `a` inside the window and different from `ackRx` (R199). -/
def handleAck (a : SeqNum) (s : State) : State :=
  { s with
    reTx := release s.reTx (dist8 s.ackRx a)
    frmReTxHead := a
    ackRx := a
    timeouts := 0#8
    ackPeriod :=
      if s.ackTimer.run = true ∧ s.retx = false then smoothPeriod s.cfg.toRawParams s.ackPeriod s.ackTimer.elapsed
      else s.ackPeriod
    ackTimer := if a ≠ s.frmTx then Timer.started else s.ackTimer.stop }

/-- `badAckNum()` (R198). -/
def badAckNum (s : State) : State := finishReceive .badAckNum none (reject s)

/-- A DATA, ACK or NAK frame of its right length: not Connected (R193), or the ack number outside the window (R198), or
`handleAck` if it advances and then what the frame does (`act`), in the order of R190. -/
def ackBearingFrame (cls : FrameClass) (a : SeqNum) (act : State → State) (s : State) : State :=
  if s.connected = false then notConnected cls s
  else if within8 s.ackRx a s.frmTx = false then badAckNum s
  else act (if a ≠ s.ackRx then handleAck a s else s)

/-- `nrUpdate(n)` (R202). -/
def nrUpdate (n : Bool) (s : State) : State :=
  { s with nrTimer := if n then Timer.started else s.nrTimer.stop }

/-- `startRetransmission()` (42_arq_transmit.md R246). -/
def startRetransmission (s : State) : State :=
  if s.ackRx ≠ s.frmTx then { s with retx := true, frmReTx := s.ackRx } else s

end Sys2Proof.Machine
end

