-- ==== Sys2Proof/Machine/Frames.lean ====
section
/-! DEFINITION. The meanings of the six control bytes: what the engine does with the received frame in `rxFrame`, whose
control byte is the instruction's (41_arq_receive.md R190 to R207). -/

namespace Sys2Proof.Machine

/-- A DATA frame once its ack number has been dealt with: the four cases of R207. -/
def dataReceived (frmNum : SeqNum) (rFlag : Bool) (s : State) : State :=
  if frmNum = s.frmRx then
    if s.dec.drop = false then
      -- accepted (R203)
      finishReceive .ok (some (framePayload s.rxFrame))
        { s with frmRx := inc8 s.frmRx, rej := false, nak := false, rxHeld := true }
    else
      -- no receive space (R205)
      finishReceive .noRxSpace none (if rFlag then forceAck s else s)
  else if rFlag then
    -- a retransmission out of sequence (R204)
    finishReceive .duplicate none (forceAck s)
  else
    -- out of sequence (R206)
    finishReceive .outOfSequence none (reject s)

/-- `ackReceived(c)` (R200). -/
def ackReceived (nFlag : Bool) (s : State) : State :=
  finishReceive .ackReceived none (nrUpdate nFlag s)

/-- `nakReceived(c)` (R201). -/
def nakReceived (nFlag : Bool) (s : State) : State :=
  finishReceive .nakReceived none (startRetransmission (nrUpdate nFlag s))

/-- DATA received (R190, R197 to R199, R203 to R207); a DATA frame of any length has class DATA. -/
def execData (frmNum : SeqNum) (rFlag : Bool) (ackNum : SeqNum) (s : State) : Host.Outcome State Fault Refusal :=
  if frameClass (.data frmNum rFlag ackNum) s = .data then
    .next (ackBearingFrame .data ackNum (dataReceived frmNum rFlag) s)
  else .next (invalidFrame s)

/-- ACK received (R200); bit `P` is ignored (R106). -/
def execAck (p : Bool) (nFlag : Bool) (ackNum : SeqNum) (s : State) : Host.Outcome State Fault Refusal :=
  if frameClass (.ack p nFlag ackNum) s = .ack then
    .next (ackBearingFrame .ack ackNum (ackReceived nFlag) s)
  else .next (invalidFrame s)

/-- NAK received (R201); bit `P` is ignored (R107). -/
def execNak (p : Bool) (nFlag : Bool) (ackNum : SeqNum) (s : State) : Host.Outcome State Fault Refusal :=
  if frameClass (.nak p nFlag ackNum) s = .nak then
    .next (ackBearingFrame .nak ackNum (nakReceived nFlag) s)
  else .next (invalidFrame s)

/-- RST received, in any connection state (R192). -/
def execRst (s : State) : Host.Outcome State Fault Refusal :=
  if frameClass .rst s = .rst then .next (finishReceive .rstReceived none (reinitOnRst s))
  else .next (invalidFrame s)

/-- RSTACK received: class INVALID at any length, since the engine never sends RST (30_encoding.md R113). -/
def execRstack (s : State) : Host.Outcome State Fault Refusal := .next (invalidFrame s)

/-- ERROR received: fatal while Connected (R194), recorded in Disconnected, dropped in AwaitingRstAck (R193). -/
def execError (s : State) : Host.Outcome State Fault Refusal :=
  if frameClass .error s = .error then
    if s.connected then
      .next (finishReceive .errorReceived none
        (linkDown s.cfg.errcPeerError false { s with peerErrCode := frameCode s.rxFrame }))
    else .next (notConnected .error s)
  else .next (invalidFrame s)

end Sys2Proof.Machine
end

