-- ==== Sys2Proof/Machine/LineBytes.lean ====
section
/-! DEFINITION. The meanings of the seven reserved line bytes (40_codec.md R157 to R166): `decodeByte` on the byte, and
what `receive` does with the event it returns (46_operations.md R352). CONTINUE leaves `receive` running. -/

namespace Sys2Proof.Machine

/-- FLAG: the frame ends; the tests in the order of R157, R158. A frame that passes them waits in `rxFrame` for
`processFrame`. -/
def execFlag (s : State) : Host.Outcome State Fault Refusal :=
  let f := s.dec.frame
  let t := { s with dec := decClear s.dec }
  if s.dec.err then .next (codecError .commError t)
  else if f.length = 0 then .next t
  else if s.dec.ovf then .next (codecError .tooLong t)
  else if f.length < 3 then .next (codecError .tooShort t)
  else if crcGood s.cfg.toRawParams f = false then .next (codecError .badCrc t)
  else .next { t with activity := .frameEnd, rxFrame := f }

/-- ESCAPE: the next data byte is unstuffed (R162). -/
def execEscape (s : State) : Host.Outcome State Fault Refusal :=
  .next { s with dec := { s.dec with esc := true } }

/-- XON (R163). -/
def execXon (s : State) : Host.Outcome State Fault Refusal :=
  .next { s with peerXoff := false }

/-- XOFF (R164). -/
def execXoff (s : State) : Host.Outcome State Fault Refusal :=
  .next { s with peerXoff := true }

/-- SUBSTITUTE: the frame is marked as received in error (R165). -/
def execSubstitute (s : State) : Host.Outcome State Fault Refusal :=
  .next { s with dec := { s.dec with err := true } }

/-- CANCEL: the frame in progress is thrown away; ignored when there is none (R161). -/
def execCancel (s : State) : Host.Outcome State Fault Refusal :=
  if decActive s.dec then .next (codecError .cancelled { s with dec := decClear s.dec })
  else .next s

/-- WAKE: dropped between frames, a data byte inside one (R166). -/
def execWake (s : State) : Host.Outcome State Fault Refusal :=
  if decActive s.dec then .next (dataByte 0xFF#8 s) else .next s

end Sys2Proof.Machine
end

