-- ==== Sys2Proof/Machine/Dispatch.lean ====
section
/-! DEFINITION. One arm per constructor of Instr. -/

namespace Sys2Proof.Machine

def exec (i : Instr) (s : State) : Host.Outcome State Fault Refusal :=
  match i with
  | .data frmNum rFlag ackNum => Sys2Proof.Machine.execData frmNum rFlag ackNum s
  | .ack p nFlag ackNum => Sys2Proof.Machine.execAck p nFlag ackNum s
  | .nak p nFlag ackNum => Sys2Proof.Machine.execNak p nFlag ackNum s
  | .rst => Sys2Proof.Machine.execRst s
  | .rstack => Sys2Proof.Machine.execRstack s
  | .error => Sys2Proof.Machine.execError s
  | .flag => Sys2Proof.Machine.execFlag s
  | .escape => Sys2Proof.Machine.execEscape s
  | .xon => Sys2Proof.Machine.execXon s
  | .xoff => Sys2Proof.Machine.execXoff s
  | .substitute => Sys2Proof.Machine.execSubstitute s
  | .cancel => Sys2Proof.Machine.execCancel s
  | .wake => Sys2Proof.Machine.execWake s

end Sys2Proof.Machine
end

