-- ==== Sys2Proof/Machine/Transmit.lean ====
section
/-! DEFINITION. The transmit sequencer (42_arq_transmit.md): what the engine writes and when. -/

namespace Sys2Proof.Machine

/-- The selections of R235; `NONE` is `none` of the option type. -/
inductive Selection where
  | error
  | rstack
  | nak
  | ack
  | retx
  | dataHigh
  | dataNorm
deriving DecidableEq, Repr

/-- What `sendStep` returns (R230). -/
inductive SendResult where
  | sent
  | nothingToSend
deriving DecidableEq, Repr

/-- `cancelStep()` (R231). -/
def cancelStep (s : State) : State := { writeByte 0x1A#8 s with can := false }

/-- `housekeeping()` (R233). -/
def housekeeping (s : State) : State :=
  if s.retx then
    let next := if within8 s.ackRx s.frmReTx s.frmTx then s.frmReTx else s.ackRx
    { s with frmReTx := next, retx := decide (next ≠ s.frmTx) }
  else s

/-- The reboot delay holds the RSTACK back (R235, 43_timers.md R280). -/
def rebootDelayRuns (s : State) : Bool :=
  s.rebootTimer.run && decide (s.rebootTimer.elapsed.toNat < s.cfg.rebootDelay)

/-- `selectNext()` (R235). -/
def selectNext (s : State) : Option Selection :=
  if s.error then some .error
  else if s.rstack && !rebootDelayRuns s then some .rstack
  else if s.connected then
    if s.nak then some .nak
    else if s.ack || decide (s.ackTx ≠ s.frmRx) then some .ack
    else if s.retx then some .retx
    else if dist8 s.ackRx s.frmTx < s.cfg.txK then
      if !s.txHigh.isEmpty then some .dataHigh
      else if !s.txNorm.isEmpty && !s.nrTimer.run then some .dataNorm
      else none
    else none
  else none

/-- The common part of `startFrame`: record the control byte, start the encoder, set `sendState` (R237). The frame body
is the control byte of `i` and the data field. -/
def beginFrame (i : Instr) (field : List Byte) (next : SendState) (s : State) : Except Fault State :=
  if s.enc.phase = .done then
    .ok { s with
      txCtl := encode i
      enc := encStart s.cfg.toRawParams (encode i :: field)
      sendState := next }
  else .error .encoderBusy

/-- The ERROR frame (R238). -/
def startError (s : State) : Except Fault State :=
  beginFrame .error [s.cfg.ashVersion, s.errCode] .sendingShortFrame { s with error := false }

/-- The RSTACK frame (R239). -/
def startRstack (s : State) : Except Fault State :=
  beginFrame .rstack [s.cfg.ashVersion, s.rstReason] .sendingShortFrame
    { s with rebootTimer := s.rebootTimer.stop }

/-- The NAK frame (R240): `P = 0`, `nFlag = 0`. -/
def startNak (s : State) : Except Fault State :=
  beginFrame (.nak false false s.frmRx) [] .sendingShortFrame
    { s with nak := false, ack := false, ackTx := s.frmRx }

/-- The ACK frame (R241): `P = 0`, `nFlag = 0`. -/
def startAck (s : State) : Except Fault State :=
  beginFrame (.ack false false s.frmRx) [] .sendingShortFrame
    { s with ack := false, ackTx := s.frmRx }

/-- The retransmitted DATA frame (R243): the first number and payload again, rFlag = 1. -/
def startRetx (s : State) : Except Fault State :=
  match nth s.reTx (dist8 s.frmReTxHead s.frmReTx) with
  | none => .error .queueUnderflow
  | some p =>
    beginFrame (.data s.frmReTx true s.frmRx) p .retransmittingDataFrame { s with ackTx := s.frmRx }

/-- The transmit queue a new DATA frame comes from. -/
def txQueue (high : Bool) (s : State) : List Payload := if high then s.txHigh else s.txNorm

/-- The new DATA frame (R244): rFlag = 0; the entry stays at the head of its queue. -/
def startData (high : Bool) (s : State) : Except Fault State :=
  match nth (txQueue high s) 0 with
  | none => .error .queueUnderflow
  | some p =>
    beginFrame (.data s.frmTx false s.frmRx) p .sendingDataFrame
      { s with txSrcHigh := high, ackTx := s.frmRx }

/-- `startFrame(sel)` (R237). -/
def startFrame (sel : Selection) (s : State) : Except Fault State :=
  match sel with
  | .error => startError s
  | .rstack => startRstack s
  | .nak => startNak s
  | .ack => startAck s
  | .retx => startRetx s
  | .dataHigh => startData true s
  | .dataNorm => startData false s

/-- The end of every frame: `sendState <- Idle` (R249); `encBody`, `encIdx`, `encCrc` hold any value from here on
(93_implementation_defined.md U11; log entry 10). -/
def endFrame (s : State) : State :=
  { s with
    sendState := .idle
    enc := Encoder.scrambled s.freeDraws s.enc
    freeDraws := s.freeDraws + 1 }

/-- Completion of a short frame; the RSTACK's makes the link Connected (R250). -/
def completeShort (s : State) : State :=
  endFrame (if s.txCtl = 0xC1#8 then { s with rstack := false, connected := true } else s)

/-- Completion of a new DATA frame: the payload moves to the retransmit queue (R251). -/
def completeData (s : State) : Except Fault State :=
  match txQueue s.txSrcHigh s with
  | [] => .error .queueUnderflow
  | p :: rest =>
    .ok (endFrame { s with
      txHigh := if s.txSrcHigh then rest else s.txHigh
      txNorm := if s.txSrcHigh then s.txNorm else rest
      reTx := enqueue s.reTx p
      frmTx := inc8 s.frmTx
      ackTimer := s.ackTimer.startIfStopped })

/-- Completion of a retransmitted DATA frame (R252). -/
def completeRetx (s : State) : State :=
  endFrame { s with frmReTx := inc8 s.frmReTx, ackTimer := s.ackTimer.startIfStopped }

/-- `completeFrame()` (R249). -/
def completeFrame (s : State) : Except Fault State :=
  match s.sendState with
  | .idle => .error .noFrameSending
  | .sendingShortFrame => .ok (completeShort s)
  | .sendingDataFrame => completeData s
  | .retransmittingDataFrame => .ok (completeRetx s)

/-- Write the next byte of the frame in progress and complete the frame at its FLAG (R230, R248). -/
def continueFrame (s : State) : Except Fault (SendResult × State) :=
  match encNext s.cfg.toRawParams s.enc with
  | none => .error .encoderEmpty
  | some (b, e) =>
    let t := { writeByte b s with enc := e }
    if encDone e then (completeFrame t).map (Prod.mk .sent) else .ok (.sent, t)

/-- `sendStep()` (R230). -/
def sendStep (s : State) : Except Fault (SendResult × State) :=
  if s.can then .ok (.sent, cancelStep s)
  else if s.sendState = .idle then
    match selectNext (housekeeping s) with
    | none => .ok (.nothingToSend, housekeeping s)
    | some sel =>
      match startFrame sel (housekeeping s) with
      | .error f => .error f
      | .ok t => continueFrame t
  else continueFrame s

end Sys2Proof.Machine
end

