-- ==== Sys2Proof/Machine/Operations.lean ====
section
/-! DEFINITION. The operations of the caller (46_operations.md), the events that are not operations (R360), the timer
polling (43_timers.md R276, R278), and the inputs of the environment. -/

namespace Sys2Proof.Machine

/-- `tick(d)` (43_timers.md R270). -/
def tick (d : Nat) (s : State) : State :=
  { s with
    ackTimer := s.ackTimer.advance d
    nrTimer := s.nrTimer.advance d
    rebootTimer := s.rebootTimer.advance d }

/-- `send(payload, high)` (R351): the tests in order; the payload is copied into the queue. -/
def send (payload : Payload) (high : Bool) (s : State) : State :=
  if s.connected = false then finish (.send .notConnected) s
  else if s.cfg.maxDataLen < payload.length then finish (.send .dataTooLong) s
  else if s.cfg.nTxSlots ≤ slotsUsed s then finish (.send .noTxSpace) s
  else if high then finish (.send .ok) { s with txHigh := enqueue s.txHigh payload }
  else finish (.send .ok) { s with txNorm := enqueue s.txNorm payload }

/-- `isTxSpaceAvailable()` (R354). -/
def txSpaceAvailable (s : State) : Bool := s.connected && decide (slotsUsed s < s.cfg.nTxSlots)

/-- `rxRelease()` (R356): the buffer is the engine's again, and its contents any value (93 U11; log entry 10). -/
def rxRelease (s : State) : State :=
  if s.rxHeld then
    { s with
      rxHeld := false
      rxBuf := freeRxBuf s.freeDraws s.cfg.maxDataLen
      freeDraws := s.freeDraws + 1 }
  else s

/-- `pollTimers()`, NR part (43_timers.md R278). -/
def pollNr (s : State) : State :=
  if s.nrTimer.expired s.cfg.nrTime then { s with nrTimer := s.nrTimer.stop } else s

/-- `pollTimers()`, ACK part (R276): whether the link has just gone down, and the state. -/
def pollAck (s : State) : Bool × State :=
  if s.ackTimer.expired s.ackPeriod.toNat then
    if s.connected = true ∧ s.ackRx ≠ s.frmTx then
      let t := { s with
        ackPeriod := backoffPeriod s.cfg.toRawParams s.ackPeriod
        timeouts := s.timeouts + 1#8 }
      if s.cfg.maxTimeouts < t.timeouts.toNat then (true, linkDown s.cfg.errcTimeouts true t)
      else
        let u := startRetransmission t
        (false, { u with ackTimer := u.ackTimer.stop })
    else (false, { s with ackTimer := s.ackTimer.stop })
  else (false, s)

/-- `pollTimers()`: the NR part first (R278, R276). -/
def pollTimers (s : State) : Bool × State := pollAck (pollNr s)

/-- The status `sendExec` returns when the driver takes no more (R353). -/
def noRoomStatus (fatal : Bool) (s : State) : Status :=
  if fatal then .fatalTimeouts
  else if s.can || decide (s.sendState ≠ .idle) || (selectNext s).isSome then .inProgress
  else .ok

/-- The status `sendExec` returns when there is nothing to send (R353). -/
def nothingStatus (fatal : Bool) : Status := if fatal then .fatalTimeouts else .ok

/-- One pass of the loop of `sendExec` (R353): one call of `writeAvailable()`, and one `sendStep` if it answers true.
With no answer left the driver answers false (log entry 5). -/
def sendExecPass (fatal : Bool) (s : State) : Host.Outcome State Fault Refusal :=
  match s.wrAnswers with
  | true :: answers =>
    match sendStep { s with wrAnswers := answers } with
    | .error f => .fault f
    | .ok (.sent, t) => .next t
    | .ok (.nothingToSend, t) => .next (finish (.sendExec (nothingStatus fatal)) t)
  | false :: answers => .next (finish (.sendExec (noRoomStatus fatal s)) { s with wrAnswers := answers })
  | [] => .next (finish (.sendExec (noRoomStatus fatal s)) s)

/-- `receive` finds no byte (R352). -/
def receiveNoByte (s : State) : State :=
  finishReceive (if decActive s.dec then .inProgress else .noRxData) none s

/-- `sendExec` begins: the timers are polled (R353). -/
def beginSendExec (s : State) : State :=
  { (pollTimers s).2 with activity := .sending (pollTimers s).1 }

/-- An event is taken from the script. -/
def runEvent (e : Event) (s : State) : State :=
  match e with
  | .send payload high => send payload high s
  | .receive => { s with activity := .receiving }
  | .sendExec => beginSendExec s
  | .isTxSpaceAvailable => finish (.isTxSpaceAvailable (txSpaceAvailable s)) s
  | .isConnected => finish (.isConnected s.connected) s
  | .rxRelease => finish .rxRelease (rxRelease s)
  | .tick d => tick d s
  | .hwReset => hwReset s
  | .bytesArrive bytes => { s with lineIn := s.lineIn ++ bytes }
  | .writeAnswers answers => { s with wrAnswers := s.wrAnswers ++ answers }
  | .setResetReason r => { s with resetReasonIn := r }

/-- Between operations: take the next event; with none to come nothing changes (R420; log entry 8). -/
def nextEvent (s : State) : State :=
  match s.script with
  | [] => s
  | e :: rest => runEvent e { s with script := rest }

end Sys2Proof.Machine
end

