-- ==== Sys2Proof/Machine/Fetch.lean ====
section
/-! DEFINITION. What the next step runs: an instruction fetched from the line (46_operations.md R352, 40_codec.md R156)
or from the control byte of a frame (41_arq_receive.md R190), or a part of an operation that is no instruction. -/

namespace Sys2Proof.Machine

/-- What the fetch finds. -/
inductive Fetched where
  /-- an instruction, and the state it runs in -/
  | instr (i : Instr) (s : State)
  /-- no instruction: the outcome of the step itself -/
  | other (o : Host.Outcome State Fault Refusal)

/-- Inside `receive`: `readByte()` removes the next byte from the incoming stream (20_memory.md R82). -/
def fetchLine (s : State) : Fetched :=
  match s.lineIn with
  | [] => .other (.next (receiveNoByte s))
  | b :: rest =>
    match decodeLine b with
    | .ok i => .instr i { s with lineIn := rest }
    | .error _ => .other (.next (dataByte b { s with lineIn := rest }))

/-- `processFrame` looks at the control byte (R190). A control byte of no type is class INVALID (30_encoding.md R112). -/
def fetchFrame (s : State) : Fetched :=
  match s.rxFrame with
  | [] => .other (.fault .frameMissing)
  | c :: _ =>
    match decodeControl c with
    | .ok i => .instr i s
    | .error _ => .other (.next (invalidFrame s))

/-- What the next step runs. -/
def fetch (s : State) : Fetched :=
  match s.activity with
  | .idle => .other (.next (nextEvent s))
  | .receiving => fetchLine s
  | .frameEnd => fetchFrame s
  | .sending fatal => .other (sendExecPass fatal s)

/-- The shortest good frame with a given control byte: data field of zeros where the type has one (30_encoding.md R109),
CRC (R143). -/
def frameWith (p : RawParams) (c : Byte) : List Byte :=
  let body := if c = 0xC1#8 ∨ c = 0xC2#8 then [c, 0#8, 0#8] else [c]
  body ++ crcBytes p body

/-- Put a byte where the next step fetches it: a reserved line byte at the head of the incoming stream, inside `receive`;
any other as the control byte of a frame the codec has just passed (log entry 7). -/
def placeByte (b : Byte) (s : State) : State :=
  match decodeLine b with
  | .ok _ => { s with activity := .receiving, lineIn := b :: s.lineIn }
  | .error _ => { s with activity := .frameEnd, rxFrame := frameWith s.cfg.toRawParams b }

/-- Put a table word where the next step fetches it. -/
def placeWord (nbits w : Nat) (s : State) : State :=
  match tableBytes nbits w with
  | [] => s
  | b :: _ => placeByte b s

end Sys2Proof.Machine
end

