-- ==== Sys2Proof/WellFormed.lean ====
section
/-! DEFINITION. Checks on instructions and frames. An instruction's operands are typed by their widths, so every
term of `Instr` has an encoding; what can be ill-formed is its use. (The range check of the parameters is
`RawParams.inRange` in Config.lean.) -/

namespace Sys2Proof

/-- The instruction's byte, standing alone as a table word, is read back as this instruction. Six DATA control bytes
have the value of a reserved line byte (40_codec.md R150) and reach a decoder only as a stuffed pair. -/
def Instr.standsAlone (i : Instr) : Bool :=
  match decodeWord (encode i) with
  | .ok j => decide (i = j)
  | .error _ => false

/-- A control byte the engine itself may send: never RST (00_scope.md R3), ACK and NAK with `P = 0` and `nFlag = 0`
(30_encoding.md R106, R107); or a line byte it writes by itself: FLAG, ESCAPE, CANCEL (last column of R102). -/
def Instr.engineMaySend : Instr → Bool
  | .data _ _ _ => true
  | .ack p n _ => !p && !n
  | .nak p n _ => !p && !n
  | .rst => false
  | .rstack => true
  | .error => true
  | .flag => true
  | .escape => true
  | .xon => false
  | .xoff => false
  | .substitute => false
  | .cancel => true
  | .wake => false

/-- A frame body that fits a frame (40_codec.md R145) and does not begin with 0xFF, which a decoder between frames
would drop (R166, R171). -/
def bodyOk (p : RawParams) (body : List Byte) : Bool :=
  decide (1 ≤ body.length) && decide (body.length ≤ p.maxDataLen + 1) && decide (body.head? ≠ some 0xFF#8)

/-- A payload of legal length (46_operations.md R351). -/
def payloadOk (p : RawParams) (payload : Payload) : Bool :=
  decide (payload.length ≤ p.maxDataLen)

end Sys2Proof
end

