-- ==== Sys2Proof/Safety.lean ====
section
/-! DEFINITION. What the claims speak of: the invariant of the reachable states, group by group, and the vocabulary of
the whole-machine rules. -/

namespace Sys2Proof.Safety

open Sys2Proof.Machine

/-- The three connection flags (45_connection.md R328). -/
structure FlagsOk (s : State) : Prop where
  connected_rstack : s.connected = true → s.rstack = false
  connected_error : s.connected = true → s.error = false
  rstack_error : s.rstack = true → s.error = false

/-- The encoder is idle exactly when no frame is part-sent (10_state.md R24), and never past its body. -/
structure EncoderOk (s : State) : Prop where
  idle_iff_done : s.sendState = .idle ↔ s.enc.phase = .done
  done_no_esc : s.enc.phase = .done → s.enc.esc = none
  body_left : s.enc.phase = .body → s.enc.idx < s.enc.body.length

/-- The counters and the retransmit queue (10_state.md R26, 42_arq_transmit.md R253). -/
structure WindowOk (s : State) : Prop where
  head_eq : s.frmReTxHead = s.ackRx
  reTx_length : s.reTx.length = dist8 s.frmReTxHead s.frmTx
  window : dist8 s.ackRx s.frmTx ≤ s.cfg.txK

/-- The slot pool and the payload lengths (44_queues.md R301, 10_state.md R30). -/
structure QueuesOk (s : State) : Prop where
  slots : slotsUsed s ≤ s.cfg.nTxSlots
  high_len : ∀ p ∈ s.txHigh, p.length ≤ s.cfg.maxDataLen
  norm_len : ∀ p ∈ s.txNorm, p.length ≤ s.cfg.maxDataLen
  reTx_len : ∀ p ∈ s.reTx, p.length ≤ s.cfg.maxDataLen

/-- The frame in progress: a DATA frame is in progress only while Connected; a new one is the head of its queue, numbered
`frmTx`, and fits the window (42_arq_transmit.md R244, R251); a RSTACK in progress is still owed (R239). -/
structure SendingOk (s : State) : Prop where
  data_connected : s.sendState = .sendingDataFrame → s.connected = true
  retx_connected : s.sendState = .retransmittingDataFrame → s.connected = true
  data_window : s.sendState = .sendingDataFrame → dist8 s.ackRx s.frmTx < s.cfg.txK
  data_head : s.sendState = .sendingDataFrame → (txQueue s.txSrcHigh s).head? = some (s.enc.body.drop 1)
  data_number : s.sendState = .sendingDataFrame → ctlFrmNum s.txCtl = s.frmTx
  rstack_owed : s.sendState = .sendingShortFrame → s.txCtl = 0xC1#8 → s.rstack = true

/-- The adaptive period and the timeout budget (43_timers.md R275, R282). -/
structure TimersOk (s : State) : Prop where
  period_low : s.cfg.ackTimeMin ≤ s.ackPeriod.toNat
  period_high : s.ackPeriod.toNat ≤ s.cfg.ackTimeMax
  budget : s.timeouts.toNat ≤ s.cfg.maxTimeouts

/-- While the link is not Connected everything of a connection is at its starting value (42_arq_transmit.md R250: "At
that moment every counter is 0 and every queue empty, as `reinitOnRst` left them"). -/
structure QuietOk (s : State) : Prop where
  flags : s.connected = false → s.rej = false ∧ s.retx = false ∧ s.nak = false ∧ s.ack = false
  counters : s.connected = false →
    s.ackRx = 0#3 ∧ s.ackTx = 0#3 ∧ s.frmTx = 0#3 ∧ s.frmReTx = 0#3 ∧ s.frmRx = 0#3 ∧ s.frmReTxHead = 0#3
  timers : s.connected = false →
    s.timeouts = 0#8 ∧ s.ackPeriod.toNat = s.cfg.ackTimeInit ∧ s.ackTimer = Timer.zero ∧ s.nrTimer = Timer.zero
  queues : s.connected = false → s.txHigh = [] ∧ s.txNorm = [] ∧ s.reTx = []

/-- The decoder and the receive buffer (40_codec.md R168, 44_queues.md R306, 20_memory.md R73). -/
structure DecoderOk (s : State) : Prop where
  frame_len : s.dec.frame.length ≤ s.cfg.maxFrameLen
  ovf_full : s.dec.ovf = true → s.dec.frame.length = s.cfg.maxFrameLen
  buf_len : s.rxBuf.length = s.cfg.maxDataLen
  held_drop : s.rxHeld = true → s.dec.frame ≠ [] → s.dec.drop = true
  buf_payload : s.dec.frame ≠ [] → s.dec.drop = false → s.rxBuf.take (s.dec.frame.length - 3) = framePayload s.dec.frame

/-- The decoder is between frames with nothing pending. -/
def betweenFrames (d : Decoder) : Prop :=
  d.frame = [] ∧ d.esc = false ∧ d.err = false ∧ d.ovf = false

/-- The frame between the codec and `processFrame` (41_arq_receive.md R190): length and CRC already checked. -/
structure FrameOk (s : State) : Prop where
  none_else : s.activity ≠ .frameEnd → s.rxFrame = []
  decoder_clear : s.activity = .frameEnd → betweenFrames s.dec
  length_low : s.activity = .frameEnd → 3 ≤ s.rxFrame.length
  length_high : s.activity = .frameEnd → s.rxFrame.length ≤ s.cfg.maxFrameLen
  crc : s.activity = .frameEnd → crcGood s.cfg.toRawParams s.rxFrame = true
  held_drop : s.activity = .frameEnd → s.rxHeld = true → s.dec.drop = true
  buf_payload : s.activity = .frameEnd → s.dec.drop = false →
    s.rxBuf.take (s.rxFrame.length - 3) = framePayload s.rxFrame

/-- The invariant of the reachable states. -/
structure EngineInv (s : State) : Prop where
  flags : FlagsOk s
  encoder : EncoderOk s
  window : WindowOk s
  queues : QueuesOk s
  sending : SendingOk s
  timers : TimersOk s
  quiet : QuietOk s
  decoder : DecoderOk s
  frame : FrameOk s

/-- `k` calls of `encNext()`: the bytes they give, in order (40_codec.md R147, R149). -/
def encTake (p : RawParams) : Nat → Encoder → Option (List Byte × Encoder)
  | 0, e => some ([], e)
  | k + 1, e =>
    match encNext p e with
    | none => none
    | some (b, e') => (encTake p k e').map fun r => (b :: r.1, r.2)

/-- A DATA, ACK or NAK frame of its right length: the frames that carry an ack number (41_arq_receive.md R197). -/
def carriesAckNum (i : Instr) (n : Nat) (a : SeqNum) : Prop :=
  (∃ f r, i = .data f r a) ∨ (∃ p q, i = .ack p q a ∧ n = 3) ∨ (∃ p q, i = .nak p q a ∧ n = 3)

/-- `receive` returned a status and, for an accepted DATA frame, a payload (46_operations.md R352). -/
def received (st : Status) (payload : Option Payload) (s : State) : State :=
  { s with activity := .idle, rxFrame := [], returns := s.returns ++ [.receive st payload] }

/-- The effect of `reject()` (41_arq_receive.md R196): REJ is 1; a NAK is asked for if REJ was 0. -/
def rejected (s : State) : State :=
  { s with rej := true, nak := s.nak || !s.rej }

/-- A frame was part-sent: its rest is abandoned and a CANCEL byte owed (45_connection.md R327). -/
def cancelOwed (s : State) : Bool := s.can || decide (s.sendState ≠ .idle)

/-- Everything that belongs to one connection at its starting value (45_connection.md R324). -/
def connectionStart (s : State) : State :=
  { s with
    rej := false, retx := false, nak := false, ack := false
    sendState := .idle
    enc := { s.enc with phase := .done, esc := none }
    ackRx := 0#3, ackTx := 0#3, frmTx := 0#3, frmReTx := 0#3, frmRx := 0#3, frmReTxHead := 0#3
    timeouts := 0#8
    ackPeriod := BitVec.ofNat 13 s.cfg.ackTimeInit
    ackTimer := { run := false, elapsed := 0#16 }
    nrTimer := { run := false, elapsed := 0#16 }
    rebootTimer := { run := false, elapsed := 0#16 }
    txHigh := [], txNorm := [], reTx := []
    txCtl := 0#8, txSrcHigh := false }

/-- `k` steps from `s`, stopping at the first fault or refusal. -/
def runSteps : Nat → State → Host.Outcome State Fault Refusal
  | 0, s => .next s
  | k + 1, s =>
    match step s with
    | .next t => runSteps k t
    | .fault f => .fault f
    | .refused r => .refused r

/-- The frame body each selection sends, read off the per-type parts of `startFrame` (42_arq_transmit.md R238 to R241,
R243, R244) with the control bytes written as the rules write them. -/
def frameBody (sel : Selection) (s : State) : List Byte :=
  match sel with
  | .error => [0xC2#8, s.cfg.ashVersion, s.errCode]
  | .rstack => [0xC1#8, s.cfg.ashVersion, s.rstReason]
  | .nak => [0xA0#8 ||| s.frmRx.setWidth 8]
  | .ack => [0x80#8 ||| s.frmRx.setWidth 8]
  | .retx =>
    ((s.frmReTx.setWidth 8 <<< 4) ||| 0x08#8 ||| s.frmRx.setWidth 8) :: s.reTx.getD (dist8 s.frmReTxHead s.frmReTx) []
  | .dataHigh => ((s.frmTx.setWidth 8 <<< 4) ||| s.frmRx.setWidth 8) :: s.txHigh.headD []
  | .dataNorm => ((s.frmTx.setWidth 8 <<< 4) ||| s.frmRx.setWidth 8) :: s.txNorm.headD []

/-- The payloads delivered upward: those `receive` returned with status `OK` (46_operations.md R352). -/
def deliveries : List Return → List Payload
  | [] => []
  | .receive .ok (some p) :: rest => p :: deliveries rest
  | _ :: rest => deliveries rest

/-- Two states that differ at most in what 93_implementation_defined.md U11 leaves open: `encBody`, `encIdx` and `encCrc`
while no frame is being sent, the contents of `rxBuf`, and the model's count of free values. -/
def sameSpecified (s s' : State) : Prop :=
  s' = { s with
    enc := if s.enc.phase = .done then { s.enc with body := s'.enc.body, idx := s'.enc.idx, crc := s'.enc.crc } else s.enc
    rxBuf := s'.rxBuf
    freeDraws := s'.freeDraws }

end Sys2Proof.Safety
end

