-- ==== Sys2Proof/Certificates/Slice0/Obligations.lean ====
section
/-! DEFINITION. The statements for the provers. Each docstring names the rule of spec/ the statement formalises. -/

section ObligationsSlice0

open Sys2Proof Sys2Proof.Machine Sys2Proof.Safety

/-! ### Encoding -/

/-- R11: the three primitives on the modulo-8 counters. -/
def Obligations.Modulo8Primitives : Prop :=
  ∀ x a b lo hi : SeqNum,
    (inc8 x).toNat = (x.toNat + 1) % 8 ∧
    (dist8 a b : Int) = ((b.toNat : Int) - (a.toNat : Int)) % 8 ∧
    (within8 lo x hi = true ↔ dist8 lo x ≤ dist8 lo hi)

/-- R102, R104 to R108: at its level every instruction's byte decodes to the instruction, and every byte that decodes to
an instruction is that instruction's byte. -/
def Obligations.RowsRoundTrip : Prop :=
  (∀ i : Instr, decodeAt i.level (encode i) = .ok i) ∧
  (∀ (l : Level) (b : Byte) (i : Instr), decodeAt l b = .ok i → i.level = l ∧ encode i = b)

/-- R104, R105 to R107: the table of control bytes, field by field; 0xC3..0xFF belong to no type. -/
def Obligations.ControlByteTable : Prop :=
  (∀ f r a, (encode (.data f r a)).toNat = 16 * f.toNat + 8 * r.toNat + a.toNat) ∧
  (∀ p n a, (encode (.ack p n a)).toNat = 0x80 + 16 * p.toNat + 8 * n.toNat + a.toNat) ∧
  (∀ p n a, (encode (.nak p n a)).toNat = 0xA0 + 16 * p.toNat + 8 * n.toNat + a.toNat) ∧
  (∀ c : Byte,
    (c &&& 0x80#8 = 0x00#8 → decodeControl c = .ok (.data (c.extractLsb' 4 3) (c.getLsbD 3) (c.extractLsb' 0 3))) ∧
    (c &&& 0xE0#8 = 0x80#8 → decodeControl c = .ok (.ack (c.getLsbD 4) (c.getLsbD 3) (c.extractLsb' 0 3))) ∧
    (c &&& 0xE0#8 = 0xA0#8 → decodeControl c = .ok (.nak (c.getLsbD 4) (c.getLsbD 3) (c.extractLsb' 0 3))) ∧
    (c = 0xC0#8 → decodeControl c = .ok .rst) ∧
    (c = 0xC1#8 → decodeControl c = .ok .rstack) ∧
    (c = 0xC2#8 → decodeControl c = .ok .error) ∧
    (0xC3 ≤ c.toNat → decodeControl c = .error .unassignedControl))

/-- R105 to R108: table words written out bit by bit decode to the instruction they stand for. The words 0x7E, 0x7D, 0x11,
0x13, 0x18 and 0x1A are each a DATA control byte too (R104); that `decodeTableWord` reads these six as line bytes is the
model's reading of R156, DEDUCED (log entry 6). -/
def Obligations.WordsWrittenOut : Prop :=
  decodeTableWord 8 0b01011101 = some (.data 5#3 true 5#3) ∧
  decodeTableWord 8 0b10011011 = some (.ack true true 3#3) ∧
  decodeTableWord 8 0b10100110 = some (.nak false false 6#3) ∧
  decodeTableWord 8 0b11000000 = some .rst ∧
  decodeTableWord 8 0b11000001 = some .rstack ∧
  decodeTableWord 8 0b11000010 = some .error ∧
  decodeTableWord 8 0b11000011 = none ∧
  decodeTableWord 8 0x7E = some .flag ∧
  decodeTableWord 8 0x7D = some .escape ∧
  decodeTableWord 8 0x11 = some .xon ∧
  decodeTableWord 8 0x13 = some .xoff ∧
  decodeTableWord 8 0x18 = some .substitute ∧
  decodeTableWord 8 0x1A = some .cancel ∧
  decodeTableWord 8 0xFF = some .wake

/-- Exactly six DATA control bytes have the value of a reserved line byte, so that alone on the line they are not read as
DATA. R150 lists the six (the spec's own inference); that a lone table word is read at the line level first is the model's
reading of R156 (log entry 6). -/
def Obligations.OnlySixRowsNeedStuffing : Prop :=
  ∀ i : Instr, i.standsAlone = false ↔
    i = .data 1#3 false 1#3 ∨ i = .data 1#3 false 3#3 ∨ i = .data 1#3 true 0#3 ∨ i = .data 1#3 true 2#3 ∨
    i = .data 7#3 true 5#3 ∨ i = .data 7#3 true 6#3

/-! ### Codec -/

/-- The values that fix the default CRC: "With the default, crc16 of the nine bytes ... is 0x29B1" and the others of R142,
the spec's own inference from R141. -/
def Obligations.DefaultCrcValues : Prop :=
  ∀ p : RawParams, p.crc = .ccittFalse →
    crc16 p [0x31#8, 0x32#8, 0x33#8, 0x34#8, 0x35#8, 0x36#8, 0x37#8, 0x38#8, 0x39#8] = 0x29B1#16 ∧
    crc16 p [0xC0#8] = 0x38BC#16 ∧ crc16 p [0x81#8] = 0x6059#16 ∧ crc16 p [0xA6#8] = 0x34DC#16 ∧
    crc16 p [] = 0xFFFF#16

/-- R143: the checker accepts exactly the byte sequences the generator makes: a body, then the high and the low byte of
its CRC. For every CRC variant. -/
def Obligations.CrcCheckAcceptsGenerated : Prop :=
  ∀ (p : RawParams) (f : List Byte), 2 ≤ f.length →
    (crcGood p f = true ↔
      ∃ body, f = body ++ [(crc16 p body).extractLsb' 8 8, (crc16 p body).extractLsb' 0 8])

/-- R148, with R147, R149 and R41, which are the spec's own inferences: after `encStart(body)` the calls of `encNext()` give the bytes of `encodeFrame(body)` one by one;
at every moment `txWire` is what is left of them; the frame is done at the last call and not before. -/
def Obligations.EncoderWritesEncodeFrame : Prop :=
  ∀ (p : RawParams) (body : List Byte), body ≠ [] →
    let wire := stuff (body ++ [(crc16 p body).extractLsb' 8 8, (crc16 p body).extractLsb' 0 8]) ++ [0x7E#8]
    encodeFrame p body = wire ∧
    ∀ k ≤ wire.length, ∃ bytes e,
      encTake p k (encStart p body) = some (bytes, e) ∧
      bytes.length = k ∧
      bytes ++ txWire p e = wire ∧
      e.body = body ∧
      (encDone e = true ↔ k = wire.length)

/-- R103, R114: a stuffed sequence holds no FLAG, XON, XOFF, SUBSTITUTE or CANCEL byte (an ESCAPE stands in it before every
stuffed byte, and a WAKE value as plain data), and different sequences have different stuffings. -/
def Obligations.StuffingAvoidsFiveBytesAndIsInjective : Prop :=
  (∀ (bytes : List Byte) (b : Byte), b ∈ stuff bytes → b ∉ [0x7E#8, 0x11#8, 0x13#8, 0x18#8, 0x1A#8]) ∧
  (∀ xs ys : List Byte, stuff xs = stuff ys → xs = ys)

/-- R171, the spec's own inference from the codec's rules: fed to a decoder between frames, the bytes of `encodeFrame(body)` end no frame before the last, and at the last
the frame handed on is the body and its CRC; nothing else has changed but the decoder's and the buffer's storage. -/
def Obligations.LineRoundTrip : Prop :=
  ∀ (s : State) (body rest : List Byte), EngineInv s → s.activity = .receiving → decActive s.dec = false →
    1 ≤ body.length → body.length ≤ s.cfg.maxDataLen + 1 → body.head? ≠ some 0xFF#8 →
    s.lineIn = encodeFrame s.cfg.toRawParams body ++ rest →
    (∀ k < (encodeFrame s.cfg.toRawParams body).length, ∃ t, runSteps k s = .next t ∧
      t.activity = .receiving ∧ t.returns = s.returns) ∧
    ∃ t, runSteps (encodeFrame s.cfg.toRawParams body).length s = .next t ∧
      t = { s with
        lineIn := rest, activity := .frameEnd
        rxFrame := body ++ crcBytes s.cfg.toRawParams body
        dec := { frame := [], esc := false, err := false, ovf := false, drop := s.rxHeld }
        rxBuf := t.rxBuf }

/-! ### Line bytes -/

/-- R157, R158: FLAG, with the tests in their order; every decoder register but `decDrop` is cleared. A rejected frame asks
for one NAK while Connected (R191). -/
def Obligations.FlagOutcomes : Prop :=
  ∀ s : State,
    let f := s.dec.frame
    let n := f.length
    let u : State := { s with dec := { frame := [], esc := false, err := false, ovf := false, drop := s.dec.drop } }
    let v := if s.connected then rejected u else u
    exec .flag s = .next (
      if s.dec.err then received .commError none v
      else if n = 0 then u
      else if s.dec.ovf then received .tooLong none v
      else if n < 3 then received .tooShort none v
      else if crc16 s.cfg.toRawParams (f.take (n - 2)) ≠
          ((f.getD (n - 2) 0#8).setWidth 16 <<< 8 ||| (f.getD (n - 1) 0#8).setWidth 16) then received .badCrc none v
      else { u with activity := .frameEnd, rxFrame := f })

/-- R162, R163, R164: ESCAPE, XON and XOFF each write one register and nothing else. -/
def Obligations.LineSignalBytes : Prop :=
  ∀ s : State,
    exec .escape s = .next { s with dec := { s.dec with esc := true } } ∧
    exec .xon s = .next { s with peerXoff := false } ∧
    exec .xoff s = .next { s with peerXoff := true }

/-- R165, R170: SUBSTITUTE sets `decErr`; then data bytes are discarded, the other line bytes but FLAG and CANCEL leave the
condition standing, and the FLAG reports COMM_ERROR. -/
def Obligations.SubstituteDiscardsUntilFlag : Prop :=
  (∀ s : State, exec .substitute s = .next { s with dec := { s.dec with err := true } }) ∧
  (∀ (s : State) (b : Byte) (rest : List Byte), s.activity = .receiving → s.dec.err = true → s.lineIn = b :: rest →
    (b ∉ [0x7E#8, 0x1A#8, 0x11#8, 0x13#8, 0x18#8, 0x7D#8] → step s = .next { s with lineIn := rest }) ∧
    (b ∈ [0x11#8, 0x13#8, 0x18#8, 0x7D#8] → ∃ t, step s = .next t ∧ t.dec.err = true ∧ t.dec.frame = s.dec.frame) ∧
    (b = 0x7E#8 → ∃ t, step s = .next t ∧ t.dec.err = false ∧ t.returns = s.returns ++ [.receive .commError none]) ∧
    (b = 0x1A#8 → ∃ t, step s = .next t ∧ t.dec.err = false ∧ t.returns = s.returns ++ [.receive .cancelled none]))

/-- R161: CANCEL throws the frame in progress away and reports it, with no NAK (R191); with none in progress it is
ignored. -/
def Obligations.CancelOutcomes : Prop :=
  ∀ s : State, exec .cancel s = .next (
    if s.dec.frame ≠ [] ∨ s.dec.err = true ∨ s.dec.esc = true then
      received .cancelled none
        { s with dec := { frame := [], esc := false, err := false, ovf := false, drop := s.dec.drop } }
    else s)

/-- R166, R167, with the storage of R73 (log entry 18): WAKE is dropped between frames and is the data byte 0xFF inside
one. -/
def Obligations.WakeOutcomes : Prop :=
  ∀ s : State,
    (s.dec.frame = [] → s.dec.err = false → s.dec.esc = false → exec .wake s = .next s) ∧
    (s.dec.err = true → exec .wake s = .next s) ∧
    (s.dec.err = false → (s.dec.frame ≠ [] ∨ s.dec.esc = true) →
      let v := if s.dec.esc then 0xFF#8 ^^^ 0x20#8 else 0xFF#8
      let drop := if s.dec.frame = [] then s.rxHeld else s.dec.drop
      let n := s.dec.frame.length
      exec .wake s = .next (
        if n < s.cfg.maxDataLen + 3 then
          { s with
            dec := { frame := s.dec.frame ++ [v], esc := false, err := false, ovf := s.dec.ovf, drop := drop }
            rxBuf := if drop = false ∧ 3 ≤ n then s.rxBuf.set (n - 3) (s.dec.frame.getD (n - 2) 0#8) else s.rxBuf }
        else { s with dec := { frame := s.dec.frame, esc := false, err := false, ovf := true, drop := drop } }))

/-- R167, R168, R169, R170, with the storage of R73 (which buffer position is written is read from R73 by inference, log
entry 18): a line byte that is no reserved value is a data byte. -/
def Obligations.DataByteStep : Prop :=
  ∀ (s : State) (b : Byte) (rest : List Byte), s.activity = .receiving → s.lineIn = b :: rest →
    b ∉ [0x7E#8, 0x1A#8, 0x11#8, 0x13#8, 0x18#8, 0x7D#8, 0xFF#8] →
    let v := if s.dec.esc then b ^^^ 0x20#8 else b
    let drop := if s.dec.frame = [] then s.rxHeld else s.dec.drop
    let n := s.dec.frame.length
    step s = .next (
      if s.dec.err then { s with lineIn := rest }
      else if n < s.cfg.maxDataLen + 3 then
        { s with
          lineIn := rest
          dec := { frame := s.dec.frame ++ [v], esc := false, err := false, ovf := s.dec.ovf, drop := drop }
          rxBuf := if drop = false ∧ 3 ≤ n then s.rxBuf.set (n - 3) (s.dec.frame.getD (n - 2) 0#8) else s.rxBuf }
      else
        { s with
          lineIn := rest
          dec := { frame := s.dec.frame, esc := false, err := false, ovf := true, drop := drop } })

/-! ### Received frames -/

/-- R112: the class of a received frame, by control byte and length. -/
def Obligations.ClassifyTable : Prop :=
  ∀ (c : Byte) (n : Nat), 3 ≤ n →
    (c.toNat ≤ 0x7F → classify c n = .data) ∧
    (0x80 ≤ c.toNat → c.toNat ≤ 0x9F → classify c n = if n = 3 then .ack else .invalid) ∧
    (0xA0 ≤ c.toNat → c.toNat ≤ 0xBF → classify c n = if n = 3 then .nak else .invalid) ∧
    (c = 0xC0#8 → classify c n = if n = 3 then .rst else .invalid) ∧
    (c = 0xC1#8 → classify c n = .invalid) ∧
    (c = 0xC2#8 → classify c n = if n = 5 then .error else .invalid) ∧
    (0xC3 ≤ c.toNat → classify c n = .invalid)

/-- R192, R325, R327: a received RST, in any connection state. That a
part-sent frame's `encBody`, `encIdx` and `encCrc` keep their values when it is abandoned is the model's reading of R324 and
R411, DEDUCED, where U11 may be read to let them be any value (log entry 10). -/
def Obligations.RstReinitialises : Prop :=
  ∀ s : State, s.rxFrame.length = 3 →
    exec .rst s = .next (received .rstReceived none
      { connectionStart s with
        connected := false
        error := false
        rstack := true
        rstReason :=
          match s.resetReasonIn with
          | .unknown => s.cfg.rsnUnknown
          | .external => s.cfg.rsnExternal
          | .powerOn => s.cfg.rsnPowerOn
          | .bootloader => s.cfg.rsnBootloader
          | .software => s.cfg.rsnSoftware
        rebootTimer := { run := true, elapsed := 0#16 }
        can := cancelOwed s })

/-- R194, R326, R327: an ERROR frame received while Connected takes the link down and is not answered. That a
part-sent frame's `encBody`, `encIdx` and `encCrc` keep their values when it is abandoned is the model's reading of R324 and
R411, DEDUCED, where U11 may be read to let them be any value (log entry 10). -/
def Obligations.ErrorTakesLinkDown : Prop :=
  ∀ (s : State) (c version code hi lo : Byte), s.rxFrame = [c, version, code, hi, lo] → s.connected = true →
    exec .error s = .next (received .errorReceived none
      { connectionStart s with
        connected := false
        rstack := false
        errCode := s.cfg.errcPeerError
        error := false
        peerErrCode := code
        can := cancelOwed s })

/-- R193: any frame of a class other than RST while the link is not Connected, whether its control byte is an
instruction's or belongs to no type. -/
def Obligations.FramesWhileNotConnected : Prop :=
  ∀ s : State, s.connected = false →
    let answer (cls : FrameClass) : State :=
      if s.rstack then received .notConnected none s
      else if cls = .error then received .errorReceived none { s with peerErrCode := s.rxFrame.getD 2 0#8 }
      else received .notConnected none { s with error := true }
    (∀ i : Instr, i.level = .control → classify (encode i) s.rxFrame.length ≠ .rst →
      exec i s = .next (answer (classify (encode i) s.rxFrame.length))) ∧
    (∀ (c : Byte) (rest : List Byte), s.activity = .frameEnd → s.rxFrame = c :: rest →
      classify c s.rxFrame.length ≠ .rst → step s = .next (answer (classify c s.rxFrame.length)))

/-- R195, R113: a frame of class INVALID while Connected: a received RSTACK of any length, a frame of the wrong length for
its type, a control byte of no type. -/
def Obligations.InvalidWhileConnected : Prop :=
  ∀ s : State, s.connected = true →
    exec .rstack s = .next (received .badControl none (rejected s)) ∧
    (∀ i : Instr, i.level = .control → classify (encode i) s.rxFrame.length = .invalid →
      exec i s = .next (received .badControl none (rejected s))) ∧
    (∀ (c : Byte) (rest : List Byte), s.activity = .frameEnd → s.rxFrame = c :: rest → 0xC3 ≤ c.toNat →
      step s = .next (received .badControl none (rejected s)))

/-- R198: an ack number outside the window drops the whole frame. -/
def Obligations.AckNumberOutsideWindow : Prop :=
  ∀ (i : Instr) (a : SeqNum) (s : State), carriesAckNum i s.rxFrame.length a → s.connected = true →
    dist8 s.ackRx s.frmTx < dist8 s.ackRx a →
    exec i s = .next (received .badAckNum none (rejected s))

/-- R199, R274: the effect of an ack number that advances. -/
def Obligations.HandleAckEffect : Prop :=
  ∀ (a : SeqNum) (s : State), ∃ period : BitVec 13,
    period.toNat =
      (if s.ackTimer.run = true ∧ s.retx = false then
        max s.cfg.ackTimeMin (min s.cfg.ackTimeMax ((7 * s.ackPeriod.toNat + 4 * s.ackTimer.elapsed.toNat) / 8))
      else s.ackPeriod.toNat) ∧
    handleAck a s = { s with
      reTx := s.reTx.drop (dist8 s.ackRx a)
      frmReTxHead := a
      ackRx := a
      timeouts := 0#8
      ackPeriod := period
      ackTimer :=
        if a = s.frmTx then { run := false, elapsed := s.ackTimer.elapsed } else { run := true, elapsed := 0#16 } }

/-- R200, R202: an ACK with a valid ack number; bit P is ignored. -/
def Obligations.AckAccepted : Prop :=
  ∀ (p n : Bool) (a : SeqNum) (s : State), s.rxFrame.length = 3 → s.connected = true →
    dist8 s.ackRx a ≤ dist8 s.ackRx s.frmTx →
    let u := if a = s.ackRx then s else handleAck a s
    exec (.ack p n a) s = .next (received .ackReceived none
      { u with nrTimer := if n then { run := true, elapsed := 0#16 } else { run := false, elapsed := s.nrTimer.elapsed } })

/-- R201, R202, R246: a NAK with a valid ack number starts the retransmission from the new `ackRx`, unless nothing is
outstanding; bit P is ignored. -/
def Obligations.NakAccepted : Prop :=
  ∀ (p n : Bool) (a : SeqNum) (s : State), s.rxFrame.length = 3 → s.connected = true →
    dist8 s.ackRx a ≤ dist8 s.ackRx s.frmTx →
    let u := if a = s.ackRx then s else handleAck a s
    exec (.nak p n a) s = .next (received .nakReceived none
      { u with
        nrTimer := if n then { run := true, elapsed := 0#16 } else { run := false, elapsed := s.nrTimer.elapsed }
        retx := if a = s.frmTx then s.retx else true
        frmReTx := if a = s.frmTx then s.frmReTx else a })

/-- R203 to R206: the four cases of a DATA frame with a valid ack number. -/
def Obligations.DataFourCases : Prop :=
  ∀ (f : SeqNum) (r : Bool) (a : SeqNum) (s : State), s.connected = true → dist8 s.ackRx a ≤ dist8 s.ackRx s.frmTx →
    let u := if a = s.ackRx then s else handleAck a s
    exec (.data f r a) s = .next (
      if f = s.frmRx ∧ s.dec.drop = false then
        received .ok (some ((s.rxFrame.drop 1).take (s.rxFrame.length - 3)))
          { u with frmRx := f + 1#3, rej := false, nak := false, rxHeld := true }
      else if f = s.frmRx then received .noRxSpace none { u with ack := s.ack || r }
      else if r = true then received .duplicate none { u with ack := true }
      else received .outOfSequence none (rejected u))

/-- R28 and R82: what no instruction changes, what a line byte changes at most, and what no frame changes. -/
def Obligations.InstructionsLeaveAlone : Prop :=
  ∀ (i : Instr) (s t : State), exec i s = .next t →
    (t.cfg = s.cfg ∧ t.lineIn = s.lineIn ∧ t.lineOut = s.lineOut ∧ t.wrAnswers = s.wrAnswers ∧
      t.resetReasonIn = s.resetReasonIn ∧ t.script = s.script ∧ t.freeDraws = s.freeDraws) ∧
    (i.level = .line → t = { s with
      rej := t.rej, nak := t.nak, peerXoff := t.peerXoff, dec := t.dec, rxBuf := t.rxBuf
      activity := t.activity, rxFrame := t.rxFrame, returns := t.returns }) ∧
    (i.level = .control → t.dec = s.dec ∧ t.rxBuf = s.rxBuf ∧ t.peerXoff = s.peerXoff) ∧
    (i.level = .control → s.connected = true → t.connected = true →
      t.sendState = s.sendState ∧ t.enc = s.enc ∧ t.txHigh = s.txHigh ∧ t.txNorm = s.txNorm ∧ t.frmTx = s.frmTx ∧
      t.ackTx = s.ackTx ∧ t.rstack = s.rstack ∧ t.error = s.error ∧ t.can = s.can ∧ t.errCode = s.errCode ∧
      t.peerErrCode = s.peerErrCode ∧ t.rstReason = s.rstReason ∧ t.rebootTimer = s.rebootTimer ∧
      t.txCtl = s.txCtl ∧ t.txSrcHigh = s.txSrcHigh)

/-- R196, R203: in the reject condition no instruction asks for a second NAK; the condition ends only by accepting the
expected DATA frame, the one numbered `frmRx`, while Connected with the receive buffer free when it began, or by the link
reset of an RST or of an ERROR received while Connected; both withdraw a NAK not yet sent. -/
def Obligations.RejectAsksOnce : Prop :=
  ∀ (i : Instr) (s t : State), exec i s = .next t → s.rej = true →
    (t.rej = true ∧ t.nak = s.nak) ∨
    (t.rej = false ∧ t.nak = false ∧
      ((s.connected = true ∧ s.dec.drop = false ∧ ∃ r a, i = .data s.frmRx r a ∧ t.frmRx = s.frmRx + 1#3) ∨
       (t.connected = false ∧ (i = .rst ∨ (i = .error ∧ s.connected = true)))))

/-- R208, the spec's own inference: a step delivers a payload exactly when it moves `frmRx` on by one, and then the frame carried the number
`frmRx`; otherwise `frmRx` stays, or goes to 0 with the link no longer Connected. -/
def Obligations.DeliveredInOrder : Prop :=
  ∀ s t : State, step s = .next t →
    (deliveries t.returns = deliveries s.returns ∧ (t.frmRx = s.frmRx ∨ (t.frmRx = 0#3 ∧ t.connected = false))) ∨
    (s.activity = .frameEnd ∧ s.connected = true ∧
      (∃ c rest r a, s.rxFrame = c :: rest ∧ decodeControl c = .ok (.data s.frmRx r a)) ∧
      deliveries t.returns = deliveries s.returns ++ [framePayload s.rxFrame] ∧ t.frmRx = inc8 s.frmRx)

/-! ### Transmission -/

/-- R235, R236, R280: the selection, in its order of priority. -/
def Obligations.SelectionPriority : Prop :=
  ∀ s : State,
    let delayed := s.rebootTimer.run = true ∧ s.rebootTimer.elapsed.toNat < s.cfg.rebootDelay
    let open' := dist8 s.ackRx s.frmTx < s.cfg.txK
    selectNext s =
      if s.error = true then some .error
      else if s.rstack = true ∧ ¬ delayed then some .rstack
      else if s.connected = false then none
      else if s.nak = true then some .nak
      else if s.ack = true ∨ s.ackTx ≠ s.frmRx then some .ack
      else if s.retx = true then some .retx
      else if open' ∧ s.txHigh ≠ [] then some .dataHigh
      else if open' ∧ s.txNorm ≠ [] ∧ s.nrTimer.run = false then some .dataNorm
      else none

/-- R231, R234: an owed CANCEL byte goes out before anything else. -/
def Obligations.CancelByteFirst : Prop :=
  ∀ (s : State) (fatal : Bool) (answers : List Bool), s.activity = .sending fatal → s.wrAnswers = true :: answers →
    s.can = true →
    step s = .next { s with wrAnswers := answers, lineOut := s.lineOut ++ [0x1A#8], can := false }

/-- R237 to R241: the step that starts an ERROR, RSTACK, NAK or ACK frame; it also writes the frame's first byte (R230). -/
def Obligations.StartOfShortFrames : Prop :=
  ∀ (s : State) (fatal : Bool) (answers : List Bool) (sel : Selection) (b : Byte) (e : Encoder),
    s.activity = .sending fatal → s.wrAnswers = true :: answers → s.can = false → s.sendState = .idle →
    s.enc.phase = .done →
    let h := housekeeping s
    let u : State := { h with
      wrAnswers := answers, lineOut := s.lineOut ++ [b], enc := e, sendState := .sendingShortFrame }
    let starts (body : List Byte) := encNext s.cfg.toRawParams (encStart s.cfg.toRawParams body) = some (b, e)
    selectNext h = some sel →
    (sel = .error → starts [0xC2#8, s.cfg.ashVersion, s.errCode] →
      step s = .next { u with error := false, txCtl := 0xC2#8 }) ∧
    (sel = .rstack → starts [0xC1#8, s.cfg.ashVersion, s.rstReason] →
      step s = .next { u with
        rebootTimer := { run := false, elapsed := s.rebootTimer.elapsed }, txCtl := 0xC1#8 }) ∧
    (sel = .nak → starts [0xA0#8 ||| s.frmRx.setWidth 8] →
      step s = .next { u with
        nak := false, ack := false, ackTx := s.frmRx, txCtl := 0xA0#8 ||| s.frmRx.setWidth 8 }) ∧
    (sel = .ack → starts [0x80#8 ||| s.frmRx.setWidth 8] →
      step s = .next { u with ack := false, ackTx := s.frmRx, txCtl := 0x80#8 ||| s.frmRx.setWidth 8 })

/-- R237, R243, R244: the step that starts a retransmitted or a new DATA frame; the queues keep the entry. -/
def Obligations.StartOfDataFrames : Prop :=
  ∀ (s : State) (fatal : Bool) (answers : List Bool) (sel : Selection) (payload : Payload) (b : Byte) (e : Encoder),
    s.activity = .sending fatal → s.wrAnswers = true :: answers → s.can = false → s.sendState = .idle →
    s.enc.phase = .done →
    let h := housekeeping s
    let u : State := { h with
      wrAnswers := answers, lineOut := s.lineOut ++ [b], enc := e, ackTx := s.frmRx }
    let starts (c : Byte) := encNext s.cfg.toRawParams (encStart s.cfg.toRawParams (c :: payload)) = some (b, e)
    let again : Byte := (h.frmReTx.setWidth 8 <<< 4) ||| 0x08#8 ||| s.frmRx.setWidth 8
    let first : Byte := (s.frmTx.setWidth 8 <<< 4) ||| s.frmRx.setWidth 8
    selectNext h = some sel →
    (sel = .retx → s.reTx[dist8 s.frmReTxHead h.frmReTx]? = some payload → starts again →
      step s = .next { u with txCtl := again, sendState := .retransmittingDataFrame }) ∧
    (sel = .dataHigh → s.txHigh.head? = some payload → starts first →
      step s = .next { u with txCtl := first, txSrcHigh := true, sendState := .sendingDataFrame }) ∧
    (sel = .dataNorm → s.txNorm.head? = some payload → starts first →
      step s = .next { u with txCtl := first, txSrcHigh := false, sendState := .sendingDataFrame })

/-- R230 and R248, with R232, the spec's own inference: with room for it, the selected frame goes out whole: byte by byte the encoding of its
body, nothing between, and `sendState` is Idle again after its FLAG and not before. -/
def Obligations.FrameGoesOutWhole : Prop :=
  ∀ (s : State) (fatal : Bool) (sel : Selection) (rest : List Bool),
    EngineInv s → s.activity = .sending fatal → s.can = false → s.sendState = .idle →
    selectNext (housekeeping s) = some sel →
    let wire := encodeFrame s.cfg.toRawParams (frameBody sel (housekeeping s))
    s.wrAnswers = List.replicate wire.length true ++ rest →
    ∀ k ≤ wire.length, ∃ t, runSteps k s = .next t ∧
      t.lineOut = s.lineOut ++ wire.take k ∧ t.activity = .sending fatal ∧ t.can = false ∧
      t.wrAnswers = List.replicate (wire.length - k) true ++ rest ∧
      (t.sendState = .idle ↔ k = 0 ∨ k = wire.length)

/-- R249 to R252: what the step that writes the FLAG does besides. The three encoder registers U11 leaves open hold any
value from here on. -/
def Obligations.FrameCompletes : Prop :=
  ∀ (s : State) (fatal : Bool) (answers : List Bool) (b : Byte) (e : Encoder),
    s.activity = .sending fatal → s.wrAnswers = true :: answers → s.can = false →
    encNext s.cfg.toRawParams s.enc = some (b, e) → e.phase = .done →
    ∃ enc' : Encoder, enc'.phase = .done ∧ enc'.esc = e.esc ∧
      let u : State := { s with
        wrAnswers := answers, lineOut := s.lineOut ++ [b], enc := enc', sendState := .idle
        freeDraws := s.freeDraws + 1 }
      let timer : Timer := if s.ackTimer.run then s.ackTimer else { run := true, elapsed := 0#16 }
      (s.sendState = .sendingShortFrame → s.txCtl = 0xC1#8 →
        step s = .next { u with rstack := false, connected := true }) ∧
      (s.sendState = .sendingShortFrame → s.txCtl ≠ 0xC1#8 → step s = .next u) ∧
      (∀ p rest, s.sendState = .sendingDataFrame → s.txSrcHigh = true → s.txHigh = p :: rest →
        step s = .next { u with txHigh := rest, reTx := s.reTx ++ [p], frmTx := s.frmTx + 1#3, ackTimer := timer }) ∧
      (∀ p rest, s.sendState = .sendingDataFrame → s.txSrcHigh = false → s.txNorm = p :: rest →
        step s = .next { u with txNorm := rest, reTx := s.reTx ++ [p], frmTx := s.frmTx + 1#3, ackTimer := timer }) ∧
      (s.sendState = .retransmittingDataFrame →
        step s = .next { u with frmReTx := s.frmReTx + 1#3, ackTimer := timer })

/-- R353, R245: the ways `sendExec` returns. That a driver with no answer left takes no byte is the model's choice (log
entry 5). -/
def Obligations.SendExecStatuses : Prop :=
  ∀ (s : State) (fatal : Bool), s.activity = .sending fatal →
    let returned (st : Status) (u : State) : State :=
      { u with activity := .idle, rxFrame := [], returns := s.returns ++ [.sendExec st] }
    let noRoom : Status :=
      if fatal = true then .fatalTimeouts
      else if s.can = true ∨ s.sendState ≠ .idle ∨ selectNext s ≠ none then .inProgress else .ok
    (∀ answers, s.wrAnswers = true :: answers → s.can = false → s.sendState = .idle →
      selectNext (housekeeping s) = none →
      step s = .next (returned (if fatal then .fatalTimeouts else .ok) { housekeeping s with wrAnswers := answers })) ∧
    (∀ answers, s.wrAnswers = false :: answers → step s = .next (returned noRoom { s with wrAnswers := answers })) ∧
    (s.wrAnswers = [] → step s = .next (returned noRoom s))

/-- R233: `housekeeping`; as R243 says of it, while RETX = 1 it has made sure that `frmReTx` is in `[ackRx, frmTx)`. -/
def Obligations.HousekeepingRepairs : Prop :=
  ∀ s : State,
    let h := housekeeping s
    (s.retx = false → h = s) ∧
    (s.retx = true → h = { s with frmReTx := h.frmReTx, retx := h.retx } ∧
      h.frmReTx = (if dist8 s.ackRx s.frmReTx ≤ dist8 s.ackRx s.frmTx then s.frmReTx else s.ackRx) ∧
      (h.retx = false ↔ h.frmReTx = s.frmTx)) ∧
    (h.retx = true → dist8 h.ackRx h.frmReTx < dist8 h.ackRx h.frmTx)

/-- R3, R106, R107, R237, R320: the control byte of every frame sent is one the engine may send (never RST; P = 0 and
nFlag = 0), and while a frame is in progress its body begins with `txCtl`. -/
def Obligations.ControlBytesSent : Prop :=
  ∀ s t : State, step s = .next t →
    (t.txCtl = s.txCtl ∨ t.txCtl = 0#8 ∨
      ∃ i : Instr, i.level = .control ∧ i.engineMaySend = true ∧ t.txCtl = encode i ∧ t.txCtl ≠ 0xC0#8) ∧
    ((s.enc.phase ≠ .done → s.enc.body.head? = some s.txCtl) →
      t.enc.phase ≠ .done → t.enc.body.head? = some t.txCtl)

/-! ### Timers -/

/-- R270: `tick(d)` moves the running timers, saturating, and nothing else. -/
def Obligations.TickAdvances : Prop :=
  (∀ (s : State) (d : Nat) (rest : List Event), s.activity = .idle → s.script = .tick d :: rest →
    ∃ ta tn tr : Timer,
      step s = .next { s with script := rest, ackTimer := ta, nrTimer := tn, rebootTimer := tr } ∧
      ∀ x ∈ [(s.ackTimer, ta), (s.nrTimer, tn), (s.rebootTimer, tr)],
        x.2.run = x.1.run ∧
        x.2.elapsed.toNat = if x.1.run then min 65535 (x.1.elapsed.toNat + d) else x.1.elapsed.toNat) ∧
  (∀ s : State, tick 0 s = s) ∧
  (∀ (s : State) (a b : Nat), tick b (tick a s) = tick (a + b) s)

/-- R276, R278, R273, R326, R246: `sendExec` begins by polling the NR timer and then the ACK timer. That a
part-sent frame's `encBody`, `encIdx` and `encCrc` keep their values when the
fatal timeout abandons it is the model's reading of R324 and
R411, DEDUCED, where U11 may be read to let them be any value (log entry 10). -/
def Obligations.PollTimersEffect : Prop :=
  ∀ (s : State) (rest : List Event), TimersOk s → s.activity = .idle → s.script = .sendExec :: rest →
    let nr : Timer :=
      if s.nrTimer.run = true ∧ s.cfg.nrTime ≤ s.nrTimer.elapsed.toNat
      then { run := false, elapsed := s.nrTimer.elapsed } else s.nrTimer
    let u : State := { s with script := rest, nrTimer := nr }
    let stopped : Timer := { run := false, elapsed := s.ackTimer.elapsed }
    ∃ period : BitVec 13, period.toNat = min (2 * s.ackPeriod.toNat) s.cfg.ackTimeMax ∧
    step s = .next (
      if ¬ (s.ackTimer.run = true ∧ s.ackPeriod.toNat ≤ s.ackTimer.elapsed.toNat) then
        { u with activity := .sending false }
      else if ¬ (s.connected = true ∧ s.ackRx ≠ s.frmTx) then
        { u with ackTimer := stopped, activity := .sending false }
      else if s.timeouts.toNat + 1 ≤ s.cfg.maxTimeouts then
        { u with
          ackPeriod := period, timeouts := s.timeouts + 1#8, retx := true, frmReTx := s.ackRx
          ackTimer := stopped, activity := .sending false }
      else
        { connectionStart u with
          connected := false, rstack := false, errCode := s.cfg.errcTimeouts, error := true
          can := cancelOwed s, activity := .sending true })

/-- R236, R279: while the NR timer runs no payload of the normal queue is started; the timer holds back nothing else. -/
def Obligations.NrTimerHoldsBackNormalOnly : Prop :=
  ∀ (s : State) (sel : Selection), selectNext s = some sel →
    (s.nrTimer.run = true → sel ≠ .dataNorm) ∧
    (sel ≠ .dataNorm → ∀ t : Timer, selectNext { s with nrTimer := t } = some sel)

/-! ### Operations -/

/-- R351, R384: `send`, with its tests in their order; on a status other than OK nothing is queued. -/
def Obligations.SendOutcomes : Prop :=
  ∀ (s : State) (payload : Payload) (high : Bool) (rest : List Event), s.activity = .idle →
    s.script = .send payload high :: rest →
    let returned (st : Status) : State :=
      { s with script := rest, activity := .idle, rxFrame := [], returns := s.returns ++ [.send st] }
    step s = .next (
      if s.connected = false then returned .notConnected
      else if payload.length > s.cfg.maxDataLen then returned .dataTooLong
      else if s.txHigh.length + s.txNorm.length + s.reTx.length ≥ s.cfg.nTxSlots then returned .noTxSpace
      else if high = true then { returned .ok with txHigh := s.txHigh ++ [payload] }
      else { returned .ok with txNorm := s.txNorm ++ [payload] })

/-- R354, R355: the two queries answer from the state and write nothing; there is space exactly when a `send` of a payload
of legal length would return OK. -/
def Obligations.StatusQueries : Prop :=
  (∀ (s : State) (rest : List Event), s.activity = .idle → s.script = .isTxSpaceAvailable :: rest →
    ∃ b, step s = .next { s with
        script := rest, activity := .idle, rxFrame := [], returns := s.returns ++ [.isTxSpaceAvailable b] } ∧
      (b = true ↔ s.connected = true ∧ s.txHigh.length + s.txNorm.length + s.reTx.length < s.cfg.nTxSlots) ∧
      ∀ (payload : Payload) (high : Bool), payload.length ≤ s.cfg.maxDataLen →
        (b = true ↔ (send payload high s).returns = s.returns ++ [.send .ok])) ∧
  (∀ (s : State) (rest : List Event), s.activity = .idle → s.script = .isConnected :: rest →
    step s = .next { s with
      script := rest, activity := .idle, rxFrame := [], returns := s.returns ++ [.isConnected s.connected] })

/-- R356: `rxRelease` gives the buffer back and changes nothing when it is not held; what the buffer holds from then on is
any value (U11), and `decDrop` keeps its value. -/
def Obligations.RxReleaseFreesBuffer : Prop :=
  ∀ (s : State) (rest : List Event), s.activity = .idle → s.script = .rxRelease :: rest →
    let u : State := { s with script := rest, activity := .idle, rxFrame := [], returns := s.returns ++ [.rxRelease] }
    (s.rxHeld = false → step s = .next u) ∧
    (s.rxHeld = true → ∃ (buf : List Byte) (n : Nat), buf.length = s.cfg.maxDataLen ∧
      step s = .next { u with rxHeld := false, rxBuf := buf, freeDraws := n })

/-- R352: `receive` begins, and what it returns when the driver has no byte. -/
def Obligations.ReceiveIdleStatuses : Prop :=
  ∀ s : State,
    (∀ rest, s.activity = .idle → s.script = .receive :: rest →
      step s = .next { s with script := rest, activity := .receiving }) ∧
    (s.activity = .receiving → s.lineIn = [] →
      step s = .next (received
        (if s.dec.frame ≠ [] ∨ s.dec.err = true ∨ s.dec.esc = true then .inProgress else .noRxData) none s))

/-- R410, R411, R324: the event `hwReset`, every element of the table; what the table calls unspecified is any value. That
`hwReset` leaves the environment (`lineIn`, `lineOut`, `wrAnswers`, `resetReasonIn`) is the model's reading of R20, DEDUCED
(log entry 22); that `initLink` keeps `encBody`, `encIdx` and `encCrc` is its reading of R324, DEDUCED (log entry 10). -/
def Obligations.HwResetTable : Prop :=
  (∀ s : State, initLink s = connectionStart s) ∧
  (∀ (s : State) (rest : List Event), s.activity = .idle → s.script = .hwReset :: rest →
    ∃ (body : List Byte) (idx : Nat) (crc : CrcWord) (buf : List Byte) (n : Nat), buf.length = s.cfg.maxDataLen ∧
      step s = .next { connectionStart s with
        script := rest
        connected := false, rstack := false, error := false, can := false
        rstReason := s.cfg.rsnUnknown, errCode := s.cfg.errcNoLink
        peerErrCode := 0#8, peerXoff := false, rxHeld := false
        dec := { frame := [], esc := false, err := false, ovf := false, drop := false }
        enc := { body := body, idx := idx, crc := crc, esc := none, phase := .done }
        rxBuf := buf, freeDraws := n })

/-- R411: the machine right after reset, for any parameters in range: every element whose value the table gives. -/
def Obligations.ResetTable : Prop :=
  ∀ p : Params,
    let s := State.resetWith p
    s.cfg = p ∧
    (s.rej = false ∧ s.retx = false ∧ s.nak = false ∧ s.ack = false) ∧
    (s.rstack = false ∧ s.error = false ∧ s.connected = false ∧ s.can = false) ∧
    s.sendState = .idle ∧
    (s.ackRx = 0#3 ∧ s.ackTx = 0#3 ∧ s.frmTx = 0#3 ∧ s.frmReTx = 0#3 ∧ s.frmRx = 0#3 ∧ s.frmReTxHead = 0#3) ∧
    s.timeouts = 0#8 ∧ s.ackPeriod.toNat = p.ackTimeInit ∧
    (s.ackTimer = { run := false, elapsed := 0#16 } ∧ s.nrTimer = { run := false, elapsed := 0#16 } ∧
      s.rebootTimer = { run := false, elapsed := 0#16 }) ∧
    (s.txHigh = [] ∧ s.txNorm = [] ∧ s.reTx = []) ∧
    (s.txCtl = 0#8 ∧ s.txSrcHigh = false) ∧
    (s.enc.phase = .done ∧ s.enc.esc = none) ∧
    s.rstReason = p.rsnUnknown ∧ s.errCode = p.errcNoLink ∧ s.peerErrCode = 0#8 ∧ s.peerXoff = false ∧
    s.rxHeld = false ∧ s.rxBuf.length = p.maxDataLen ∧
    s.dec = { frame := [], esc := false, err := false, ovf := false, drop := false }

/-! ### The whole machine -/

/-- The invariant of the reachable states holds after reset, for any parameters in range. -/
def Obligations.EngineInvAtReset : Prop :=
  ∀ p : Params, EngineInv (State.resetWith p)

/-- R275, R301, R306, with R24, R26, R253 and R328, the spec's own inferences: every step keeps the invariant that collects
them. -/
def Obligations.StepKeepsEngineInv : Prop :=
  ∀ s t : State, EngineInv s → step s = .next t → EngineInv t

/-- R380, with R389, the spec's own inference: the engine is never stuck. No instruction ends in a fault or a refusal, whatever the state; under the
invariant no step does, and no run. -/
def Obligations.StepNeverStops : Prop :=
  (∀ (i : Instr) (s : State), ∃ t, exec i s = .next t) ∧
  (∀ s : State, EngineInv s → ∀ k, ∃ t, runSteps k s = .next t ∧ EngineInv t)

/-- R321: every change of the connection state, with its cause; there is no other. -/
def Obligations.ConnectionTransitions : Prop :=
  ∀ s t : State, EngineInv s → step s = .next t →
    connState t = connState s ∨
    -- `hwReset`
    (connState t = .disconnected ∧ s.activity = .idle ∧ ∃ rest, s.script = .hwReset :: rest) ∨
    -- RST received, in any state
    (connState t = .awaitingRstAck ∧ s.activity = .frameEnd ∧ s.rxFrame.head? = some 0xC0#8 ∧ s.rxFrame.length = 3) ∨
    -- the last byte of the RSTACK frame is written
    (connState s = .awaitingRstAck ∧ connState t = .connected ∧ s.txCtl = 0xC1#8 ∧
      s.sendState = .sendingShortFrame ∧ t.sendState = .idle ∧ t.lineOut = s.lineOut ++ [0x7E#8]) ∨
    -- the timeout budget is exceeded, and an ERROR frame is then owed
    (connState s = .connected ∧ connState t = .disconnected ∧ s.activity = .idle ∧
      (∃ rest, s.script = .sendExec :: rest) ∧ s.timeouts.toNat + 1 > s.cfg.maxTimeouts ∧ t.error = true) ∨
    -- ERROR received
    (connState s = .connected ∧ connState t = .disconnected ∧ s.activity = .frameEnd ∧
      s.rxFrame.head? = some 0xC2#8 ∧ s.rxFrame.length = 5)

/-- R156, R190, R112: a step runs the decoded instruction; a byte of no row is a data byte on the line, and of class INVALID
as a control byte. -/
def Obligations.StepRunsFetched : Prop :=
  (∀ (s : State) (b : Byte) (rest : List Byte) (i : Instr), s.activity = .receiving → s.lineIn = b :: rest →
    decodeLine b = .ok i → step s = exec i { s with lineIn := rest }) ∧
  (∀ (s : State) (b : Byte) (rest : List Byte), s.activity = .receiving → s.lineIn = b :: rest →
    decodeLine b = .error .dataByte → step s = .next (dataByte b { s with lineIn := rest })) ∧
  (∀ (s : State) (c : Byte) (rest : List Byte) (i : Instr), s.activity = .frameEnd → s.rxFrame = c :: rest →
    decodeControl c = .ok i → step s = exec i s) ∧
  (∀ (s : State) (c : Byte) (rest : List Byte), s.activity = .frameEnd → s.rxFrame = c :: rest →
    decodeControl c = .error .unassignedControl → step s = .next (invalidFrame s))

/-- R236, R426: no step but the reception of XON and XOFF and `hwReset` depends on `peerXoff` or writes it; in particular it
holds back no transmission. -/
def Obligations.PeerXoffGatesNothing : Prop :=
  ∀ (s t : State) (x : Bool), step s = .next t →
    (∀ rest, s.activity = .idle → s.script ≠ .hwReset :: rest) →
    (∀ b rest, s.activity = .receiving → s.lineIn = b :: rest → b ≠ 0x11#8 ∧ b ≠ 0x13#8) →
    t.peerXoff = s.peerXoff ∧ step { s with peerXoff := x } = .next { t with peerXoff := x }

/-- R306, R72, R73: an accepted payload stands in the receive buffer, and while the caller holds the buffer no step writes
it. -/
def Obligations.HeldBufferKept : Prop :=
  ∀ s t : State, EngineInv s → step s = .next t →
    (∀ payload, t.returns = s.returns ++ [.receive .ok (some payload)] →
      t.rxHeld = true ∧ t.rxBuf.take payload.length = payload) ∧
    (s.rxHeld = true → t.rxHeld = true → t.rxBuf = s.rxBuf)

/-- R31, R40, U11: what the spec leaves unspecified is never read: two states that differ only there take steps to two states
that differ only there, and so agree on every byte written and every status returned. -/
def Obligations.UnspecifiedStorageIsNeverRead : Prop :=
  ∀ s s' t : State, EngineInv s → sameSpecified s s' → step s = .next t →
    ∃ t', step s' = .next t' ∧ sameSpecified t t'

/-- R352: `receive` returns, within as many steps as there are bytes ready, two more, and with one status; it has taken its
bytes from the front of the stream. -/
def Obligations.ReceiveReturns : Prop :=
  ∀ s : State, EngineInv s → s.activity = .receiving →
    ∃ k t, k ≤ s.lineIn.length + 2 ∧ runSteps k s = .next t ∧ t.activity = .idle ∧
      (∃ st payload, t.returns = s.returns ++ [.receive st payload] ∧ (payload ≠ none ↔ st = .ok)) ∧
      ∃ taken, s.lineIn = taken ++ t.lineIn

/-- R353, R357: `sendExec` returns, within as many steps as the driver has answers and one more; it has written at most one
byte for each true answer, and reports FATAL_TIMEOUTS exactly when its polling took the link down. -/
def Obligations.SendExecReturns : Prop :=
  ∀ (s : State) (fatal : Bool), EngineInv s → s.activity = .sending fatal →
    ∃ k t st, k ≤ s.wrAnswers.length + 1 ∧ runSteps k s = .next t ∧ t.activity = .idle ∧
      t.returns = s.returns ++ [.sendExec st] ∧ (st = .fatalTimeouts ↔ fatal = true) ∧
      ∃ used out, s.wrAnswers = used ++ t.wrAnswers ∧ t.lineOut = s.lineOut ++ out ∧ out.length ≤ used.count true

/-- R88, R423, R327: a received frame or line byte does not touch the frame in progress, unless the link goes down or is
reset; then the frame is abandoned. -/
def Obligations.FrameSnapshot : Prop :=
  ∀ (i : Instr) (s t : State), exec i s = .next t →
    (t.enc = s.enc ∧ t.sendState = s.sendState ∧ t.txCtl = s.txCtl ∧ t.txSrcHigh = s.txSrcHigh ∧ t.can = s.can) ∨
    ((i = .rst ∨ i = .error) ∧ t.connected = false ∧ t.enc.phase = .done ∧ t.enc.esc = none ∧ t.sendState = .idle ∧
      (s.sendState ≠ .idle → t.can = true))

/-- R7, R8, R82, R83, R86, R357: the parameters never change; no event is taken inside an operation; bytes already written
stay, and at most one is added, only inside `sendExec` after a true answer. -/
def Obligations.StepsKeepParametersAndScript : Prop :=
  ∀ s t : State, step s = .next t →
    t.cfg = s.cfg ∧
    (s.activity ≠ .idle → t.script = s.script) ∧
    (∃ out, t.lineOut = s.lineOut ++ out ∧ out.length ≤ 1 ∧
      (out ≠ [] → ∃ fatal answers, s.activity = .sending fatal ∧ s.wrAnswers = true :: answers ∧ t.wrAnswers = answers))

end ObligationsSlice0
end

