-- ==== Sys2Proof/Laws/Codec.lean ====
section
/-! SUPPORT. What `encNext` can do, and stuffing byte by byte. -/

namespace Sys2Proof.Laws

open Sys2Proof.Machine

theorem stuff_cons (b : Byte) (l : List Byte) : stuff (b :: l) = stuffByte b ++ stuff l := rfl

theorem stuff_append (l m : List Byte) : stuff (l ++ m) = stuff l ++ stuff m := by simp [stuff]

/-- The two CRC bytes, read high byte first, are the CRC (R143). -/
theorem crc_of_bytes (w : CrcWord) : ((hiByte w).setWidth 16 <<< 8) ||| (loByte w).setWidth 16 = w := by
  unfold hiByte loByte
  ext i hi
  simp
  interval_cases i <;> simp

/-- `encEmit` gives the first line byte of the stuffed byte and keeps the rest for the next call. -/
theorem encEmit_cases (b : Byte) (e : Encoder) (he : e.esc = none) :
    ∃ x e', encEmit b e = (x, e') ∧ (∀ tail, stuffByte b ++ tail = x :: (e'.esc.toList ++ tail)) ∧
      e'.body = e.body ∧ e'.idx = e.idx ∧ e'.crc = e.crc ∧ e'.phase = e.phase := by
  unfold encEmit stuffByte
  split
  · exact ⟨_, _, rfl, by simp, rfl, rfl, rfl, rfl⟩
  · exact ⟨_, _, rfl, by simp [he], rfl, rfl, rfl, rfl⟩

/-- `encNext` never changes the body it was started with. -/
theorem encNext_body {p : RawParams} {e e' : Encoder} {b : Byte} (h : encNext p e = some (b, e')) :
    e'.body = e.body := by
  unfold encNext at h
  simp only [encEmit] at h
  split at h
  · cases h; rfl
  · split at h
    · split at h
      · cases h
      · simp only [Option.some.injEq] at h
        split at h <;> (cases h; rfl)
    all_goals first
      | (cases h; done)
      | (simp only [Option.some.injEq] at h; first | (split at h <;> (cases h; rfl)) | (cases h; rfl))

/-- `encNext` has a byte while a frame is in progress. -/
theorem encNext_isSome {p : RawParams} {e : Encoder} (hb : e.phase = .body → e.idx < e.body.length)
    (hd : e.phase ≠ .done) : ∃ b e', encNext p e = some (b, e') := by
  unfold encNext
  split
  · exact ⟨_, _, rfl⟩
  · split
    · rename_i hp
      rw [List.getElem?_eq_getElem (hb hp)]
      exact ⟨_, _, rfl⟩
    · exact ⟨_, _, rfl⟩
    · exact ⟨_, _, rfl⟩
    · exact ⟨_, _, rfl⟩
    · simp_all

end Sys2Proof.Laws
end

