-- ==== Sys2Proof/Laws/Ops.lean ====
section
/-! SUPPORT. What each shared receive procedure and link reset can do, said once, and the arithmetic of the counters and
the adaptive period. -/

namespace Sys2Proof.Laws

open Sys2Proof.Machine

/-! ### Parameters and arithmetic -/

/-- The ranges of R8, of any parameter record. -/
theorem params_in_range (p : Params) :
    1 ≤ p.txK ∧ p.txK ≤ 7 ∧ 1 ≤ p.ackTimeMin ∧ p.ackTimeMin ≤ p.ackTimeInit ∧ p.ackTimeInit ≤ p.ackTimeMax ∧
    p.ackTimeMax ≤ 8191 ∧ p.maxTimeouts ≤ 254 ∧ p.rebootDelay ≤ 65535 ∧ p.nrTime ≤ 65535 ∧ p.maxDataLen ≤ 252 ∧
    p.txK ≤ p.nTxSlots ∧ p.nTxSlots ≤ 255 := by
  have h := p.valid
  simp only [RawParams.inRange, Bool.and_eq_true, decide_eq_true_eq] at h
  omega

/-- The starting value of `ackPeriod` fits its 13 bits. -/
theorem ackTimeInit_fits (p : Params) : (BitVec.ofNat 13 p.ackTimeInit).toNat = p.ackTimeInit := by
  have := params_in_range p
  simp only [BitVec.toNat_ofNat]
  omega

theorem dist8_self (a : SeqNum) : dist8 a a = 0 := by simp [dist8]

/-- The distance from a number inside a window to the window's end. -/
theorem dist8_of_inside (a x b : SeqNum) (h : dist8 a x ≤ dist8 a b) : dist8 x b = dist8 a b - dist8 a x := by
  unfold dist8 at *
  revert h a x b
  decide

/-- One number more, as long as the modulus is not reached. -/
theorem dist8_inc8 (a b : SeqNum) (h : dist8 a b < 7) : dist8 a (inc8 b) = dist8 a b + 1 := by
  unfold dist8 inc8 at *
  revert h a b
  decide

/-- R275: the smoothed period stays in its bounds. -/
theorem smoothPeriod_bounds (p : Params) (q : BitVec 13) (e : BitVec 16) :
    p.ackTimeMin ≤ (smoothPeriod p.toRawParams q e).toNat ∧ (smoothPeriod p.toRawParams q e).toNat ≤ p.ackTimeMax := by
  have := params_in_range p
  unfold smoothPeriod
  simp only [BitVec.toNat_ofNat]
  omega

/-- R275: so does the doubled one. -/
theorem backoffPeriod_bounds (p : Params) (q : BitVec 13) (h : p.ackTimeMin ≤ q.toNat) :
    p.ackTimeMin ≤ (backoffPeriod p.toRawParams q).toNat ∧ (backoffPeriod p.toRawParams q).toNat ≤ p.ackTimeMax := by
  have := params_in_range p
  unfold backoffPeriod
  simp only [BitVec.toNat_ofNat]
  omega

/-! ### Storage -/

theorem storeLeaving_length (d : Decoder) (buf : List Byte) : (storeLeaving d buf).length = buf.length := by
  unfold storeLeaving
  split <;> simp

/-- One frame byte more makes the byte before the last two the payload's last (20_memory.md R73). -/
theorem framePayload_append (f : List Byte) (v : Byte) (h : 3 ≤ f.length) :
    framePayload (f ++ [v]) = framePayload f ++ [f.getD (f.length - 2) 0#8] := by
  unfold framePayload
  rw [List.drop_append_of_le_length (by omega), show (f ++ [v]).length - 3 = (f.length - 3) + 1 by simp; omega,
    List.take_append_of_le_length (by simp; omega), List.take_add_one]
  congr 1
  rw [List.getElem?_drop, show 1 + (f.length - 3) = f.length - 2 by omega, List.getD_eq_getElem?_getD,
    List.getElem?_eq_getElem (by omega)]
  simp

/-- A data byte writes the decoder and the receive buffer, nothing else. -/
theorem dataByte_form (b : Byte) (s : State) : ∃ d buf, dataByte b s = { s with dec := d, rxBuf := buf } := by
  unfold dataByte
  dsimp only
  split
  · exact ⟨s.dec, s.rxBuf, rfl⟩
  · split
    · exact ⟨_, _, rfl⟩
    · exact ⟨_, s.rxBuf, rfl⟩

/-! ### Receive procedures -/

theorem reject_form (s : State) : reject s = { s with rej := true, nak := s.nak || !s.rej } := by
  unfold reject
  cases h : s.rej <;> simp
  cases s
  simp_all

theorem codecError_form (st : Status) (s : State) :
    ∃ r n, codecError st s = finishReceive st none { s with rej := r, nak := n } := by
  unfold codecError
  rw [reject_form]
  split
  · exact ⟨_, _, rfl⟩
  · exact ⟨s.rej, s.nak, rfl⟩

/-- A frame received while not Connected never delivers. -/
theorem notConnected_form (cls : FrameClass) (s : State) :
    ∃ st e pe, st ≠ .ok ∧ notConnected cls s = finishReceive st none { s with error := e, peerErrCode := pe } := by
  unfold notConnected
  repeat' split
  · exact ⟨_, s.error, s.peerErrCode, by simp, rfl⟩
  · exact ⟨_, s.error, _, by simp, rfl⟩
  · exact ⟨_, _, s.peerErrCode, by simp, rfl⟩

theorem invalidFrame_cases (s : State) :
    (s.connected = false ∧ invalidFrame s = notConnected .invalid s) ∨
    (s.connected = true ∧ invalidFrame s = finishReceive .badControl none (reject s)) := by
  unfold invalidFrame
  split
  · exact .inr ⟨‹_›, rfl⟩
  · exact .inl ⟨by simp_all, rfl⟩

theorem ackBearingFrame_cases (cls : FrameClass) (a : SeqNum) (act : State → State) (s : State) :
    (s.connected = false ∧ ackBearingFrame cls a act s = notConnected cls s) ∨
    (s.connected = true ∧ within8 s.ackRx a s.frmTx = false ∧ ackBearingFrame cls a act s = badAckNum s) ∨
    (s.connected = true ∧ within8 s.ackRx a s.frmTx = true ∧
      ∃ u, (u = s ∧ a = s.ackRx ∨ u = handleAck a s ∧ a ≠ s.ackRx) ∧ ackBearingFrame cls a act s = act u) := by
  unfold ackBearingFrame
  split
  · exact .inl ⟨‹_›, rfl⟩
  · rename_i hc
    have hc : s.connected = true := by simpa using hc
    split
    · exact .inr (.inl ⟨hc, ‹_›, rfl⟩)
    · rename_i hw
      refine .inr (.inr ⟨hc, by simpa using hw, _, ?_, rfl⟩)
      split
      · exact .inr ⟨rfl, ‹_›⟩
      · exact .inl ⟨rfl, not_not.1 ‹_›⟩

theorem startRetransmission_form (s : State) :
    ∃ rx fr, startRetransmission s = { s with retx := rx, frmReTx := fr } := by
  unfold startRetransmission
  split
  · exact ⟨_, _, rfl⟩
  · exact ⟨s.retx, s.frmReTx, rfl⟩

theorem nakReceived_form (n : Bool) (s : State) :
    ∃ nr rx fr, nakReceived n s = finishReceive .nakReceived none { s with nrTimer := nr, retx := rx, frmReTx := fr } := by
  obtain ⟨rx, fr, h⟩ := startRetransmission_form (nrUpdate n s)
  exact ⟨_, rx, fr, by unfold nakReceived; rw [h]; rfl⟩

/-- A DATA frame with a valid ack number is accepted, or ends with another status and in the reject condition at least
if it was there before. -/
theorem dataReceived_cases (f : SeqNum) (r : Bool) (s : State) :
    (f = s.frmRx ∧ s.dec.drop = false ∧ dataReceived f r s = finishReceive .ok (some (framePayload s.rxFrame))
      { s with frmRx := inc8 s.frmRx, rej := false, nak := false, rxHeld := true }) ∨
    ∃ st rj nk ak, st ≠ .ok ∧ (s.rej = true → rj = true ∧ nk = s.nak) ∧
      dataReceived f r s = finishReceive st none { s with rej := rj, nak := nk, ack := ak } := by
  unfold dataReceived forceAck
  rw [reject_form]
  split
  · split
    · exact .inl ⟨‹_›, ‹_›, rfl⟩
    · split
      · exact .inr ⟨_, s.rej, s.nak, _, by simp, by simp, rfl⟩
      · exact .inr ⟨_, s.rej, s.nak, s.ack, by simp, by simp, rfl⟩
  · split
    · exact .inr ⟨_, s.rej, s.nak, _, by simp, by simp, rfl⟩
    · exact .inr ⟨_, _, _, s.ack, by simp, by simp +contextual, rfl⟩

end Sys2Proof.Laws
end

