-- ==== Sys2Proof/Laws/Frames.lean ====
section
/-! SUPPORT. What a received frame and a line byte can do: one inversion of `exec` for each level. -/

namespace Sys2Proof.Laws

open Sys2Proof.Machine

/-! ### The class of an instruction's frame (30_encoding.md R112) -/

theorem classify_data (f : SeqNum) (r : Bool) (a : SeqNum) (n : Nat) : classify (encode (.data f r a)) n = .data := by
  have h : ∀ f r a, (encode (.data f r a)).getLsbD 7 = false := by decide
  simp only [classify, h, if_true]

theorem classify_ack (p q : Bool) (a : SeqNum) (n : Nat) :
    classify (encode (.ack p q a)) n = if n = 3 then .ack else .invalid := by
  have h : ∀ p q a, (encode (.ack p q a)).getLsbD 7 = true ∧ encode (.ack p q a) &&& 0xE0#8 = 0x80#8 := by decide
  simp only [classify, h, if_true, Bool.true_eq_false, if_false]

theorem classify_nak (p q : Bool) (a : SeqNum) (n : Nat) :
    classify (encode (.nak p q a)) n = if n = 3 then .nak else .invalid := by
  have h : ∀ p q a, (encode (.nak p q a)).getLsbD 7 = true ∧ encode (.nak p q a) &&& 0xE0#8 = 0xA0#8 := by decide
  simp only [classify, h, if_true, Bool.true_eq_false, if_false]
  simp

theorem classify_rst (n : Nat) : classify (encode .rst) n = if n = 3 then .rst else .invalid := by simp [classify, encode]

theorem classify_rstack (n : Nat) : classify (encode .rstack) n = .invalid := by simp [classify, encode]

theorem classify_error (n : Nat) : classify (encode .error) n = if n = 5 then .error else .invalid := by
  simp [classify, encode]

/-! ### The instructions, one level at a time -/

/-- Everything a received frame can do: the RST, the ERROR that takes the link down, a frame while not Connected, a frame
turned away with a reject, and the three frames that carry an ack number inside the window. -/
theorem exec_control_cases {i : Instr} {s t : State} (hl : i.level = .control) (h : exec i s = .next t) :
    (i = .rst ∧ s.rxFrame.length = 3 ∧ t = finishReceive .rstReceived none (reinitOnRst s)) ∨
    (i = .error ∧ s.rxFrame.length = 5 ∧ s.connected = true ∧
      t = finishReceive .errorReceived none
        (linkDown s.cfg.errcPeerError false { s with peerErrCode := frameCode s.rxFrame })) ∨
    (s.connected = false ∧ ∃ cls, t = notConnected cls s) ∨
    (s.connected = true ∧ ∃ st, (st = .badControl ∨ st = .badAckNum) ∧ t = finishReceive st none (reject s)) ∨
    (s.connected = true ∧ ∃ a u, (u = s ∧ a = s.ackRx ∨ u = handleAck a s ∧ a ≠ s.ackRx) ∧
      within8 s.ackRx a s.frmTx = true ∧
      ((∃ f r, i = .data f r a ∧ t = dataReceived f r u) ∨ (∃ p n, i = .ack p n a ∧ t = ackReceived n u) ∨
       (∃ p n, i = .nak p n a ∧ t = nakReceived n u))) := by
  have inv : ∀ {A B E : Prop}, invalidFrame s = t → A ∨ B ∨ (s.connected = false ∧ ∃ cls, t = notConnected cls s) ∨
      (s.connected = true ∧ ∃ st, (st = .badControl ∨ st = .badAckNum) ∧ t = finishReceive st none (reject s)) ∨ E := by
    rintro A B E rfl
    rcases invalidFrame_cases s with ⟨h1, h2⟩ | ⟨h1, h2⟩
    · exact .inr (.inr (.inl ⟨h1, _, h2⟩))
    · exact .inr (.inr (.inr (.inl ⟨h1, _, .inl rfl, h2⟩)))
  cases i <;> simp [Instr.level] at hl <;> simp only [exec] at h
  · rename_i f r a
    simp only [execData, frameClass, classify_data, if_true, Host.Outcome.next.injEq] at h
    subst h
    rcases ackBearingFrame_cases .data a (dataReceived f r) s with ⟨h1, h2⟩ | ⟨h1, _, h2⟩ | ⟨h1, h2, u, h3, h4⟩
    · exact .inr (.inr (.inl ⟨h1, _, h2⟩))
    · exact .inr (.inr (.inr (.inl ⟨h1, _, .inr rfl, h2⟩)))
    · exact .inr (.inr (.inr (.inr ⟨h1, a, u, h3, h2, .inl ⟨f, r, rfl, h4⟩⟩)))
  · rename_i p n a
    simp only [execAck] at h
    split at h <;> injection h with h
    · subst h
      rcases ackBearingFrame_cases .ack a (ackReceived n) s with ⟨h1, h2⟩ | ⟨h1, _, h2⟩ | ⟨h1, h2, u, h3, h4⟩
      · exact .inr (.inr (.inl ⟨h1, _, h2⟩))
      · exact .inr (.inr (.inr (.inl ⟨h1, _, .inr rfl, h2⟩)))
      · exact .inr (.inr (.inr (.inr ⟨h1, a, u, h3, h2, .inr (.inl ⟨p, n, rfl, h4⟩)⟩)))
    · exact inv h
  · rename_i p n a
    simp only [execNak] at h
    split at h <;> injection h with h
    · subst h
      rcases ackBearingFrame_cases .nak a (nakReceived n) s with ⟨h1, h2⟩ | ⟨h1, _, h2⟩ | ⟨h1, h2, u, h3, h4⟩
      · exact .inr (.inr (.inl ⟨h1, _, h2⟩))
      · exact .inr (.inr (.inr (.inl ⟨h1, _, .inr rfl, h2⟩)))
      · exact .inr (.inr (.inr (.inr ⟨h1, a, u, h3, h2, .inr (.inr ⟨p, n, rfl, h4⟩)⟩)))
    · exact inv h
  · simp only [execRst, frameClass, classify_rst] at h
    by_cases h3 : s.rxFrame.length = 3
    · simp only [h3, if_true] at h
      injection h with h
      exact .inl ⟨rfl, h3, h.symm⟩
    · simp only [h3, if_false, reduceCtorEq] at h
      injection h with h
      exact inv h
  · unfold execRstack at h
    injection h with h
    exact inv h
  · simp only [execError, frameClass, classify_error] at h
    by_cases h3 : s.rxFrame.length = 5
    · simp only [h3, if_true] at h
      split at h <;> injection h with h
      · exact .inr (.inl ⟨rfl, h3, ‹_›, h.symm⟩)
      · exact .inr (.inr (.inl ⟨by simp_all, _, h.symm⟩))
    · simp only [h3, if_false, reduceCtorEq] at h
      injection h with h
      exact inv h

/-- Everything a line byte can do: write decoder registers or `peerXoff`; end `receive` with a rejected frame; hand a good
frame on; and WAKE inside a frame is a data byte. -/
theorem exec_line_cases {i : Instr} {s t : State} (hl : i.level = .line) (h : exec i s = .next t) :
    (∃ d x, t = { s with dec := d, peerXoff := x } ∧ (i ≠ .xon → i ≠ .xoff → x = s.peerXoff)) ∨
    (∃ st, st ≠ .ok ∧ t = codecError st { s with dec := decClear s.dec }) ∨
    (i = .flag ∧ s.dec.err = false ∧ s.dec.ovf = false ∧ 3 ≤ s.dec.frame.length ∧
      crcGood s.cfg.toRawParams s.dec.frame = true ∧
      t = { s with dec := decClear s.dec, activity := .frameEnd, rxFrame := s.dec.frame }) ∨
    (i = .wake ∧ decActive s.dec = true ∧ t = dataByte 0xFF#8 s) := by
  cases i <;> simp [Instr.level] at hl <;> simp only [exec] at h
  · simp only [execFlag] at h
    repeat' split at h
    all_goals (injection h with h; subst h)
    · exact .inr (.inl ⟨_, by simp, rfl⟩)
    · exact .inl ⟨_, s.peerXoff, rfl, fun _ _ => rfl⟩
    · exact .inr (.inl ⟨_, by simp, rfl⟩)
    · exact .inr (.inl ⟨_, by simp, rfl⟩)
    · exact .inr (.inl ⟨_, by simp, rfl⟩)
    · refine .inr (.inr (.inl ⟨rfl, ?_, ?_, ?_, ?_, rfl⟩)) <;> simp_all
  · cases h; exact .inl ⟨_, s.peerXoff, rfl, fun _ _ => rfl⟩
  · cases h; exact .inl ⟨s.dec, _, rfl, by simp⟩
  · cases h; exact .inl ⟨s.dec, _, rfl, by simp⟩
  · cases h; exact .inl ⟨_, s.peerXoff, rfl, fun _ _ => rfl⟩
  · simp only [execCancel] at h
    split at h <;> cases h
    · exact .inr (.inl ⟨_, by simp, rfl⟩)
    · exact .inl ⟨s.dec, s.peerXoff, rfl, fun _ _ => rfl⟩
  · simp only [execWake] at h
    split at h <;> cases h
    · exact .inr (.inr (.inr ⟨rfl, ‹_›, rfl⟩))
    · exact .inl ⟨s.dec, s.peerXoff, rfl, fun _ _ => rfl⟩

/-! ### The level of a decoded instruction -/

theorem decodeLine_level {b : Byte} {i : Instr} (h : decodeLine b = .ok i) : i.level = .line := by
  unfold decodeLine at h
  repeat (split at h; · cases h; rfl)
  cases h

theorem decodeControl_level {c : Byte} {i : Instr} (h : decodeControl c = .ok i) : i.level = .control := by
  unfold decodeControl at h
  repeat (split at h; · cases h; rfl)
  cases h

end Sys2Proof.Laws
end

