-- ==== Sys2Proof/Laws/PerInstr.lean ====
section
/-! SUPPORT. Statements made per instruction: one lemma per constructor of Instr. -/

namespace Sys2Proof.Laws

/-- The mask of the instruction's row in spec/opcode_table.json. -/
def rowMask : Instr → Byte
  | .data _ _ _ => 0x80#8
  | .ack _ _ _ => 0xE0#8
  | .nak _ _ _ => 0xE0#8
  | .rst => 0xFF#8
  | .rstack => 0xFF#8
  | .error => 0xFF#8
  | .flag => 0xFF#8
  | .escape => 0xFF#8
  | .xon => 0xFF#8
  | .xoff => 0xFF#8
  | .substitute => 0xFF#8
  | .cancel => 0xFF#8
  | .wake => 0xFF#8

/-- The match of the instruction's row in spec/opcode_table.json. -/
def rowMatch : Instr → Byte
  | .data _ _ _ => 0x00#8
  | .ack _ _ _ => 0x80#8
  | .nak _ _ _ => 0xA0#8
  | .rst => 0xC0#8
  | .rstack => 0xC1#8
  | .error => 0xC2#8
  | .flag => 0x7E#8
  | .escape => 0x7D#8
  | .xon => 0x11#8
  | .xoff => 0x13#8
  | .substitute => 0x18#8
  | .cancel => 0x1A#8
  | .wake => 0xFF#8

/-- The instruction's byte belongs to its row of the table, by the row's mask and match. -/
def RowMatch.Statement (i : Instr) : Prop := encode i &&& rowMask i = rowMatch i

theorem RowMatch.data (frmNum : SeqNum) (rFlag : Bool) (ackNum : SeqNum) :
    RowMatch.Statement (.data frmNum rFlag ackNum) := by
  unfold RowMatch.Statement; revert frmNum rFlag ackNum; decide

theorem RowMatch.ack (p nFlag : Bool) (ackNum : SeqNum) : RowMatch.Statement (.ack p nFlag ackNum) := by
  unfold RowMatch.Statement; revert p nFlag ackNum; decide

theorem RowMatch.nak (p nFlag : Bool) (ackNum : SeqNum) : RowMatch.Statement (.nak p nFlag ackNum) := by
  unfold RowMatch.Statement; revert p nFlag ackNum; decide

theorem RowMatch.rst : RowMatch.Statement .rst := by unfold RowMatch.Statement; decide
theorem RowMatch.rstack : RowMatch.Statement .rstack := by unfold RowMatch.Statement; decide
theorem RowMatch.error : RowMatch.Statement .error := by unfold RowMatch.Statement; decide
theorem RowMatch.flag : RowMatch.Statement .flag := by unfold RowMatch.Statement; decide
theorem RowMatch.escape : RowMatch.Statement .escape := by unfold RowMatch.Statement; decide
theorem RowMatch.xon : RowMatch.Statement .xon := by unfold RowMatch.Statement; decide
theorem RowMatch.xoff : RowMatch.Statement .xoff := by unfold RowMatch.Statement; decide
theorem RowMatch.substitute : RowMatch.Statement .substitute := by unfold RowMatch.Statement; decide
theorem RowMatch.cancel : RowMatch.Statement .cancel := by unfold RowMatch.Statement; decide
theorem RowMatch.wake : RowMatch.Statement .wake := by unfold RowMatch.Statement; decide

end Sys2Proof.Laws
end

