-- ==== Sys2Proof/Laws/State.lean ====
section
/-! SUPPORT. For each named update of the state, one lemma per field, true by rfl: a later proof rewrites with these and
unfolds no record update. -/

namespace Sys2Proof.Machine

variable (s : State)

/-! ### An operation returns (46_operations.md R350). -/

@[simp] theorem finish_cfg (r : Return) : (finish r s).cfg = s.cfg := rfl
@[simp] theorem finish_rej (r : Return) : (finish r s).rej = s.rej := rfl
@[simp] theorem finish_retx (r : Return) : (finish r s).retx = s.retx := rfl
@[simp] theorem finish_nak (r : Return) : (finish r s).nak = s.nak := rfl
@[simp] theorem finish_ack (r : Return) : (finish r s).ack = s.ack := rfl
@[simp] theorem finish_rstack (r : Return) : (finish r s).rstack = s.rstack := rfl
@[simp] theorem finish_error (r : Return) : (finish r s).error = s.error := rfl
@[simp] theorem finish_connected (r : Return) : (finish r s).connected = s.connected := rfl
@[simp] theorem finish_can (r : Return) : (finish r s).can = s.can := rfl
@[simp] theorem finish_sendState (r : Return) : (finish r s).sendState = s.sendState := rfl
@[simp] theorem finish_ackRx (r : Return) : (finish r s).ackRx = s.ackRx := rfl
@[simp] theorem finish_ackTx (r : Return) : (finish r s).ackTx = s.ackTx := rfl
@[simp] theorem finish_frmTx (r : Return) : (finish r s).frmTx = s.frmTx := rfl
@[simp] theorem finish_frmReTx (r : Return) : (finish r s).frmReTx = s.frmReTx := rfl
@[simp] theorem finish_frmRx (r : Return) : (finish r s).frmRx = s.frmRx := rfl
@[simp] theorem finish_frmReTxHead (r : Return) : (finish r s).frmReTxHead = s.frmReTxHead := rfl
@[simp] theorem finish_timeouts (r : Return) : (finish r s).timeouts = s.timeouts := rfl
@[simp] theorem finish_ackPeriod (r : Return) : (finish r s).ackPeriod = s.ackPeriod := rfl
@[simp] theorem finish_rstReason (r : Return) : (finish r s).rstReason = s.rstReason := rfl
@[simp] theorem finish_errCode (r : Return) : (finish r s).errCode = s.errCode := rfl
@[simp] theorem finish_peerErrCode (r : Return) : (finish r s).peerErrCode = s.peerErrCode := rfl
@[simp] theorem finish_peerXoff (r : Return) : (finish r s).peerXoff = s.peerXoff := rfl
@[simp] theorem finish_rxHeld (r : Return) : (finish r s).rxHeld = s.rxHeld := rfl
@[simp] theorem finish_txCtl (r : Return) : (finish r s).txCtl = s.txCtl := rfl
@[simp] theorem finish_txSrcHigh (r : Return) : (finish r s).txSrcHigh = s.txSrcHigh := rfl
@[simp] theorem finish_ackTimer (r : Return) : (finish r s).ackTimer = s.ackTimer := rfl
@[simp] theorem finish_nrTimer (r : Return) : (finish r s).nrTimer = s.nrTimer := rfl
@[simp] theorem finish_rebootTimer (r : Return) : (finish r s).rebootTimer = s.rebootTimer := rfl
@[simp] theorem finish_txHigh (r : Return) : (finish r s).txHigh = s.txHigh := rfl
@[simp] theorem finish_txNorm (r : Return) : (finish r s).txNorm = s.txNorm := rfl
@[simp] theorem finish_reTx (r : Return) : (finish r s).reTx = s.reTx := rfl
@[simp] theorem finish_rxBuf (r : Return) : (finish r s).rxBuf = s.rxBuf := rfl
@[simp] theorem finish_enc (r : Return) : (finish r s).enc = s.enc := rfl
@[simp] theorem finish_dec (r : Return) : (finish r s).dec = s.dec := rfl
@[simp] theorem finish_lineIn (r : Return) : (finish r s).lineIn = s.lineIn := rfl
@[simp] theorem finish_lineOut (r : Return) : (finish r s).lineOut = s.lineOut := rfl
@[simp] theorem finish_wrAnswers (r : Return) : (finish r s).wrAnswers = s.wrAnswers := rfl
@[simp] theorem finish_resetReasonIn (r : Return) : (finish r s).resetReasonIn = s.resetReasonIn := rfl
@[simp] theorem finish_script (r : Return) : (finish r s).script = s.script := rfl
@[simp] theorem finish_returns (r : Return) : (finish r s).returns = s.returns ++ [r] := rfl
@[simp] theorem finish_activity (r : Return) : (finish r s).activity = .idle := rfl
@[simp] theorem finish_rxFrame (r : Return) : (finish r s).rxFrame = [] := rfl
@[simp] theorem finish_freeDraws (r : Return) : (finish r s).freeDraws = s.freeDraws := rfl

/-! ### `receive` returns (46_operations.md R352). -/

@[simp] theorem finishReceive_cfg (st : Status) (p : Option Payload) : (finishReceive st p s).cfg = s.cfg := rfl
@[simp] theorem finishReceive_rej (st : Status) (p : Option Payload) : (finishReceive st p s).rej = s.rej := rfl
@[simp] theorem finishReceive_retx (st : Status) (p : Option Payload) : (finishReceive st p s).retx = s.retx := rfl
@[simp] theorem finishReceive_nak (st : Status) (p : Option Payload) : (finishReceive st p s).nak = s.nak := rfl
@[simp] theorem finishReceive_ack (st : Status) (p : Option Payload) : (finishReceive st p s).ack = s.ack := rfl
@[simp] theorem finishReceive_rstack (st : Status) (p : Option Payload) : (finishReceive st p s).rstack = s.rstack := rfl
@[simp] theorem finishReceive_error (st : Status) (p : Option Payload) : (finishReceive st p s).error = s.error := rfl
@[simp] theorem finishReceive_connected (st : Status) (p : Option Payload) : (finishReceive st p s).connected = s.connected := rfl
@[simp] theorem finishReceive_can (st : Status) (p : Option Payload) : (finishReceive st p s).can = s.can := rfl
@[simp] theorem finishReceive_sendState (st : Status) (p : Option Payload) : (finishReceive st p s).sendState = s.sendState := rfl
@[simp] theorem finishReceive_ackRx (st : Status) (p : Option Payload) : (finishReceive st p s).ackRx = s.ackRx := rfl
@[simp] theorem finishReceive_ackTx (st : Status) (p : Option Payload) : (finishReceive st p s).ackTx = s.ackTx := rfl
@[simp] theorem finishReceive_frmTx (st : Status) (p : Option Payload) : (finishReceive st p s).frmTx = s.frmTx := rfl
@[simp] theorem finishReceive_frmReTx (st : Status) (p : Option Payload) : (finishReceive st p s).frmReTx = s.frmReTx := rfl
@[simp] theorem finishReceive_frmRx (st : Status) (p : Option Payload) : (finishReceive st p s).frmRx = s.frmRx := rfl
@[simp] theorem finishReceive_frmReTxHead (st : Status) (p : Option Payload) : (finishReceive st p s).frmReTxHead = s.frmReTxHead := rfl
@[simp] theorem finishReceive_timeouts (st : Status) (p : Option Payload) : (finishReceive st p s).timeouts = s.timeouts := rfl
@[simp] theorem finishReceive_ackPeriod (st : Status) (p : Option Payload) : (finishReceive st p s).ackPeriod = s.ackPeriod := rfl
@[simp] theorem finishReceive_rstReason (st : Status) (p : Option Payload) : (finishReceive st p s).rstReason = s.rstReason := rfl
@[simp] theorem finishReceive_errCode (st : Status) (p : Option Payload) : (finishReceive st p s).errCode = s.errCode := rfl
@[simp] theorem finishReceive_peerErrCode (st : Status) (p : Option Payload) : (finishReceive st p s).peerErrCode = s.peerErrCode := rfl
@[simp] theorem finishReceive_peerXoff (st : Status) (p : Option Payload) : (finishReceive st p s).peerXoff = s.peerXoff := rfl
@[simp] theorem finishReceive_rxHeld (st : Status) (p : Option Payload) : (finishReceive st p s).rxHeld = s.rxHeld := rfl
@[simp] theorem finishReceive_txCtl (st : Status) (p : Option Payload) : (finishReceive st p s).txCtl = s.txCtl := rfl
@[simp] theorem finishReceive_txSrcHigh (st : Status) (p : Option Payload) : (finishReceive st p s).txSrcHigh = s.txSrcHigh := rfl
@[simp] theorem finishReceive_ackTimer (st : Status) (p : Option Payload) : (finishReceive st p s).ackTimer = s.ackTimer := rfl
@[simp] theorem finishReceive_nrTimer (st : Status) (p : Option Payload) : (finishReceive st p s).nrTimer = s.nrTimer := rfl
@[simp] theorem finishReceive_rebootTimer (st : Status) (p : Option Payload) : (finishReceive st p s).rebootTimer = s.rebootTimer := rfl
@[simp] theorem finishReceive_txHigh (st : Status) (p : Option Payload) : (finishReceive st p s).txHigh = s.txHigh := rfl
@[simp] theorem finishReceive_txNorm (st : Status) (p : Option Payload) : (finishReceive st p s).txNorm = s.txNorm := rfl
@[simp] theorem finishReceive_reTx (st : Status) (p : Option Payload) : (finishReceive st p s).reTx = s.reTx := rfl
@[simp] theorem finishReceive_rxBuf (st : Status) (p : Option Payload) : (finishReceive st p s).rxBuf = s.rxBuf := rfl
@[simp] theorem finishReceive_enc (st : Status) (p : Option Payload) : (finishReceive st p s).enc = s.enc := rfl
@[simp] theorem finishReceive_dec (st : Status) (p : Option Payload) : (finishReceive st p s).dec = s.dec := rfl
@[simp] theorem finishReceive_lineIn (st : Status) (p : Option Payload) : (finishReceive st p s).lineIn = s.lineIn := rfl
@[simp] theorem finishReceive_lineOut (st : Status) (p : Option Payload) : (finishReceive st p s).lineOut = s.lineOut := rfl
@[simp] theorem finishReceive_wrAnswers (st : Status) (p : Option Payload) : (finishReceive st p s).wrAnswers = s.wrAnswers := rfl
@[simp] theorem finishReceive_resetReasonIn (st : Status) (p : Option Payload) : (finishReceive st p s).resetReasonIn = s.resetReasonIn := rfl
@[simp] theorem finishReceive_script (st : Status) (p : Option Payload) : (finishReceive st p s).script = s.script := rfl
@[simp] theorem finishReceive_returns (st : Status) (p : Option Payload) : (finishReceive st p s).returns = s.returns ++ [.receive st p] := rfl
@[simp] theorem finishReceive_activity (st : Status) (p : Option Payload) : (finishReceive st p s).activity = .idle := rfl
@[simp] theorem finishReceive_rxFrame (st : Status) (p : Option Payload) : (finishReceive st p s).rxFrame = [] := rfl
@[simp] theorem finishReceive_freeDraws (st : Status) (p : Option Payload) : (finishReceive st p s).freeDraws = s.freeDraws := rfl

/-! ### `writeByte` (46_operations.md R357). -/

@[simp] theorem writeByte_cfg (b : Byte) : (writeByte b s).cfg = s.cfg := rfl
@[simp] theorem writeByte_rej (b : Byte) : (writeByte b s).rej = s.rej := rfl
@[simp] theorem writeByte_retx (b : Byte) : (writeByte b s).retx = s.retx := rfl
@[simp] theorem writeByte_nak (b : Byte) : (writeByte b s).nak = s.nak := rfl
@[simp] theorem writeByte_ack (b : Byte) : (writeByte b s).ack = s.ack := rfl
@[simp] theorem writeByte_rstack (b : Byte) : (writeByte b s).rstack = s.rstack := rfl
@[simp] theorem writeByte_error (b : Byte) : (writeByte b s).error = s.error := rfl
@[simp] theorem writeByte_connected (b : Byte) : (writeByte b s).connected = s.connected := rfl
@[simp] theorem writeByte_can (b : Byte) : (writeByte b s).can = s.can := rfl
@[simp] theorem writeByte_sendState (b : Byte) : (writeByte b s).sendState = s.sendState := rfl
@[simp] theorem writeByte_ackRx (b : Byte) : (writeByte b s).ackRx = s.ackRx := rfl
@[simp] theorem writeByte_ackTx (b : Byte) : (writeByte b s).ackTx = s.ackTx := rfl
@[simp] theorem writeByte_frmTx (b : Byte) : (writeByte b s).frmTx = s.frmTx := rfl
@[simp] theorem writeByte_frmReTx (b : Byte) : (writeByte b s).frmReTx = s.frmReTx := rfl
@[simp] theorem writeByte_frmRx (b : Byte) : (writeByte b s).frmRx = s.frmRx := rfl
@[simp] theorem writeByte_frmReTxHead (b : Byte) : (writeByte b s).frmReTxHead = s.frmReTxHead := rfl
@[simp] theorem writeByte_timeouts (b : Byte) : (writeByte b s).timeouts = s.timeouts := rfl
@[simp] theorem writeByte_ackPeriod (b : Byte) : (writeByte b s).ackPeriod = s.ackPeriod := rfl
@[simp] theorem writeByte_rstReason (b : Byte) : (writeByte b s).rstReason = s.rstReason := rfl
@[simp] theorem writeByte_errCode (b : Byte) : (writeByte b s).errCode = s.errCode := rfl
@[simp] theorem writeByte_peerErrCode (b : Byte) : (writeByte b s).peerErrCode = s.peerErrCode := rfl
@[simp] theorem writeByte_peerXoff (b : Byte) : (writeByte b s).peerXoff = s.peerXoff := rfl
@[simp] theorem writeByte_rxHeld (b : Byte) : (writeByte b s).rxHeld = s.rxHeld := rfl
@[simp] theorem writeByte_txCtl (b : Byte) : (writeByte b s).txCtl = s.txCtl := rfl
@[simp] theorem writeByte_txSrcHigh (b : Byte) : (writeByte b s).txSrcHigh = s.txSrcHigh := rfl
@[simp] theorem writeByte_ackTimer (b : Byte) : (writeByte b s).ackTimer = s.ackTimer := rfl
@[simp] theorem writeByte_nrTimer (b : Byte) : (writeByte b s).nrTimer = s.nrTimer := rfl
@[simp] theorem writeByte_rebootTimer (b : Byte) : (writeByte b s).rebootTimer = s.rebootTimer := rfl
@[simp] theorem writeByte_txHigh (b : Byte) : (writeByte b s).txHigh = s.txHigh := rfl
@[simp] theorem writeByte_txNorm (b : Byte) : (writeByte b s).txNorm = s.txNorm := rfl
@[simp] theorem writeByte_reTx (b : Byte) : (writeByte b s).reTx = s.reTx := rfl
@[simp] theorem writeByte_rxBuf (b : Byte) : (writeByte b s).rxBuf = s.rxBuf := rfl
@[simp] theorem writeByte_enc (b : Byte) : (writeByte b s).enc = s.enc := rfl
@[simp] theorem writeByte_dec (b : Byte) : (writeByte b s).dec = s.dec := rfl
@[simp] theorem writeByte_lineIn (b : Byte) : (writeByte b s).lineIn = s.lineIn := rfl
@[simp] theorem writeByte_lineOut (b : Byte) : (writeByte b s).lineOut = s.lineOut ++ [b] := rfl
@[simp] theorem writeByte_wrAnswers (b : Byte) : (writeByte b s).wrAnswers = s.wrAnswers := rfl
@[simp] theorem writeByte_resetReasonIn (b : Byte) : (writeByte b s).resetReasonIn = s.resetReasonIn := rfl
@[simp] theorem writeByte_script (b : Byte) : (writeByte b s).script = s.script := rfl
@[simp] theorem writeByte_returns (b : Byte) : (writeByte b s).returns = s.returns := rfl
@[simp] theorem writeByte_activity (b : Byte) : (writeByte b s).activity = s.activity := rfl
@[simp] theorem writeByte_rxFrame (b : Byte) : (writeByte b s).rxFrame = s.rxFrame := rfl
@[simp] theorem writeByte_freeDraws (b : Byte) : (writeByte b s).freeDraws = s.freeDraws := rfl

/-! ### `ACK <- 1` (41_arq_receive.md R204). -/

@[simp] theorem forceAck_cfg : (forceAck s).cfg = s.cfg := rfl
@[simp] theorem forceAck_rej : (forceAck s).rej = s.rej := rfl
@[simp] theorem forceAck_retx : (forceAck s).retx = s.retx := rfl
@[simp] theorem forceAck_nak : (forceAck s).nak = s.nak := rfl
@[simp] theorem forceAck_ack : (forceAck s).ack = true := rfl
@[simp] theorem forceAck_rstack : (forceAck s).rstack = s.rstack := rfl
@[simp] theorem forceAck_error : (forceAck s).error = s.error := rfl
@[simp] theorem forceAck_connected : (forceAck s).connected = s.connected := rfl
@[simp] theorem forceAck_can : (forceAck s).can = s.can := rfl
@[simp] theorem forceAck_sendState : (forceAck s).sendState = s.sendState := rfl
@[simp] theorem forceAck_ackRx : (forceAck s).ackRx = s.ackRx := rfl
@[simp] theorem forceAck_ackTx : (forceAck s).ackTx = s.ackTx := rfl
@[simp] theorem forceAck_frmTx : (forceAck s).frmTx = s.frmTx := rfl
@[simp] theorem forceAck_frmReTx : (forceAck s).frmReTx = s.frmReTx := rfl
@[simp] theorem forceAck_frmRx : (forceAck s).frmRx = s.frmRx := rfl
@[simp] theorem forceAck_frmReTxHead : (forceAck s).frmReTxHead = s.frmReTxHead := rfl
@[simp] theorem forceAck_timeouts : (forceAck s).timeouts = s.timeouts := rfl
@[simp] theorem forceAck_ackPeriod : (forceAck s).ackPeriod = s.ackPeriod := rfl
@[simp] theorem forceAck_rstReason : (forceAck s).rstReason = s.rstReason := rfl
@[simp] theorem forceAck_errCode : (forceAck s).errCode = s.errCode := rfl
@[simp] theorem forceAck_peerErrCode : (forceAck s).peerErrCode = s.peerErrCode := rfl
@[simp] theorem forceAck_peerXoff : (forceAck s).peerXoff = s.peerXoff := rfl
@[simp] theorem forceAck_rxHeld : (forceAck s).rxHeld = s.rxHeld := rfl
@[simp] theorem forceAck_txCtl : (forceAck s).txCtl = s.txCtl := rfl
@[simp] theorem forceAck_txSrcHigh : (forceAck s).txSrcHigh = s.txSrcHigh := rfl
@[simp] theorem forceAck_ackTimer : (forceAck s).ackTimer = s.ackTimer := rfl
@[simp] theorem forceAck_nrTimer : (forceAck s).nrTimer = s.nrTimer := rfl
@[simp] theorem forceAck_rebootTimer : (forceAck s).rebootTimer = s.rebootTimer := rfl
@[simp] theorem forceAck_txHigh : (forceAck s).txHigh = s.txHigh := rfl
@[simp] theorem forceAck_txNorm : (forceAck s).txNorm = s.txNorm := rfl
@[simp] theorem forceAck_reTx : (forceAck s).reTx = s.reTx := rfl
@[simp] theorem forceAck_rxBuf : (forceAck s).rxBuf = s.rxBuf := rfl
@[simp] theorem forceAck_enc : (forceAck s).enc = s.enc := rfl
@[simp] theorem forceAck_dec : (forceAck s).dec = s.dec := rfl
@[simp] theorem forceAck_lineIn : (forceAck s).lineIn = s.lineIn := rfl
@[simp] theorem forceAck_lineOut : (forceAck s).lineOut = s.lineOut := rfl
@[simp] theorem forceAck_wrAnswers : (forceAck s).wrAnswers = s.wrAnswers := rfl
@[simp] theorem forceAck_resetReasonIn : (forceAck s).resetReasonIn = s.resetReasonIn := rfl
@[simp] theorem forceAck_script : (forceAck s).script = s.script := rfl
@[simp] theorem forceAck_returns : (forceAck s).returns = s.returns := rfl
@[simp] theorem forceAck_activity : (forceAck s).activity = s.activity := rfl
@[simp] theorem forceAck_rxFrame : (forceAck s).rxFrame = s.rxFrame := rfl
@[simp] theorem forceAck_freeDraws : (forceAck s).freeDraws = s.freeDraws := rfl

/-! ### `initLink` (45_connection.md R324). -/

@[simp] theorem initLink_cfg : (initLink s).cfg = s.cfg := rfl
@[simp] theorem initLink_rej : (initLink s).rej = false := rfl
@[simp] theorem initLink_retx : (initLink s).retx = false := rfl
@[simp] theorem initLink_nak : (initLink s).nak = false := rfl
@[simp] theorem initLink_ack : (initLink s).ack = false := rfl
@[simp] theorem initLink_rstack : (initLink s).rstack = s.rstack := rfl
@[simp] theorem initLink_error : (initLink s).error = s.error := rfl
@[simp] theorem initLink_connected : (initLink s).connected = s.connected := rfl
@[simp] theorem initLink_can : (initLink s).can = s.can := rfl
@[simp] theorem initLink_sendState : (initLink s).sendState = .idle := rfl
@[simp] theorem initLink_ackRx : (initLink s).ackRx = 0#3 := rfl
@[simp] theorem initLink_ackTx : (initLink s).ackTx = 0#3 := rfl
@[simp] theorem initLink_frmTx : (initLink s).frmTx = 0#3 := rfl
@[simp] theorem initLink_frmReTx : (initLink s).frmReTx = 0#3 := rfl
@[simp] theorem initLink_frmRx : (initLink s).frmRx = 0#3 := rfl
@[simp] theorem initLink_frmReTxHead : (initLink s).frmReTxHead = 0#3 := rfl
@[simp] theorem initLink_timeouts : (initLink s).timeouts = 0#8 := rfl
@[simp] theorem initLink_ackPeriod : (initLink s).ackPeriod = BitVec.ofNat 13 s.cfg.ackTimeInit := rfl
@[simp] theorem initLink_rstReason : (initLink s).rstReason = s.rstReason := rfl
@[simp] theorem initLink_errCode : (initLink s).errCode = s.errCode := rfl
@[simp] theorem initLink_peerErrCode : (initLink s).peerErrCode = s.peerErrCode := rfl
@[simp] theorem initLink_peerXoff : (initLink s).peerXoff = s.peerXoff := rfl
@[simp] theorem initLink_rxHeld : (initLink s).rxHeld = s.rxHeld := rfl
@[simp] theorem initLink_txCtl : (initLink s).txCtl = 0#8 := rfl
@[simp] theorem initLink_txSrcHigh : (initLink s).txSrcHigh = false := rfl
@[simp] theorem initLink_ackTimer : (initLink s).ackTimer = Timer.zero := rfl
@[simp] theorem initLink_nrTimer : (initLink s).nrTimer = Timer.zero := rfl
@[simp] theorem initLink_rebootTimer : (initLink s).rebootTimer = Timer.zero := rfl
@[simp] theorem initLink_txHigh : (initLink s).txHigh = [] := rfl
@[simp] theorem initLink_txNorm : (initLink s).txNorm = [] := rfl
@[simp] theorem initLink_reTx : (initLink s).reTx = [] := rfl
@[simp] theorem initLink_rxBuf : (initLink s).rxBuf = s.rxBuf := rfl
@[simp] theorem initLink_enc : (initLink s).enc = { s.enc with phase := .done, esc := none } := rfl
@[simp] theorem initLink_dec : (initLink s).dec = s.dec := rfl
@[simp] theorem initLink_lineIn : (initLink s).lineIn = s.lineIn := rfl
@[simp] theorem initLink_lineOut : (initLink s).lineOut = s.lineOut := rfl
@[simp] theorem initLink_wrAnswers : (initLink s).wrAnswers = s.wrAnswers := rfl
@[simp] theorem initLink_resetReasonIn : (initLink s).resetReasonIn = s.resetReasonIn := rfl
@[simp] theorem initLink_script : (initLink s).script = s.script := rfl
@[simp] theorem initLink_returns : (initLink s).returns = s.returns := rfl
@[simp] theorem initLink_activity : (initLink s).activity = s.activity := rfl
@[simp] theorem initLink_rxFrame : (initLink s).rxFrame = s.rxFrame := rfl
@[simp] theorem initLink_freeDraws : (initLink s).freeDraws = s.freeDraws := rfl

/-! ### `reinitOnRst` (45_connection.md R325). -/

@[simp] theorem reinitOnRst_cfg : (reinitOnRst s).cfg = s.cfg := rfl
@[simp] theorem reinitOnRst_rej : (reinitOnRst s).rej = false := rfl
@[simp] theorem reinitOnRst_retx : (reinitOnRst s).retx = false := rfl
@[simp] theorem reinitOnRst_nak : (reinitOnRst s).nak = false := rfl
@[simp] theorem reinitOnRst_ack : (reinitOnRst s).ack = false := rfl
@[simp] theorem reinitOnRst_rstack : (reinitOnRst s).rstack = true := rfl
@[simp] theorem reinitOnRst_error : (reinitOnRst s).error = false := rfl
@[simp] theorem reinitOnRst_connected : (reinitOnRst s).connected = false := rfl
@[simp] theorem reinitOnRst_can : (reinitOnRst s).can = canAfterAbandon s := rfl
@[simp] theorem reinitOnRst_sendState : (reinitOnRst s).sendState = .idle := rfl
@[simp] theorem reinitOnRst_ackRx : (reinitOnRst s).ackRx = 0#3 := rfl
@[simp] theorem reinitOnRst_ackTx : (reinitOnRst s).ackTx = 0#3 := rfl
@[simp] theorem reinitOnRst_frmTx : (reinitOnRst s).frmTx = 0#3 := rfl
@[simp] theorem reinitOnRst_frmReTx : (reinitOnRst s).frmReTx = 0#3 := rfl
@[simp] theorem reinitOnRst_frmRx : (reinitOnRst s).frmRx = 0#3 := rfl
@[simp] theorem reinitOnRst_frmReTxHead : (reinitOnRst s).frmReTxHead = 0#3 := rfl
@[simp] theorem reinitOnRst_timeouts : (reinitOnRst s).timeouts = 0#8 := rfl
@[simp] theorem reinitOnRst_ackPeriod : (reinitOnRst s).ackPeriod = BitVec.ofNat 13 s.cfg.ackTimeInit := rfl
@[simp] theorem reinitOnRst_rstReason : (reinitOnRst s).rstReason = s.cfg.reasonCode s.resetReasonIn := rfl
@[simp] theorem reinitOnRst_errCode : (reinitOnRst s).errCode = s.errCode := rfl
@[simp] theorem reinitOnRst_peerErrCode : (reinitOnRst s).peerErrCode = s.peerErrCode := rfl
@[simp] theorem reinitOnRst_peerXoff : (reinitOnRst s).peerXoff = s.peerXoff := rfl
@[simp] theorem reinitOnRst_rxHeld : (reinitOnRst s).rxHeld = s.rxHeld := rfl
@[simp] theorem reinitOnRst_txCtl : (reinitOnRst s).txCtl = 0#8 := rfl
@[simp] theorem reinitOnRst_txSrcHigh : (reinitOnRst s).txSrcHigh = false := rfl
@[simp] theorem reinitOnRst_ackTimer : (reinitOnRst s).ackTimer = Timer.zero := rfl
@[simp] theorem reinitOnRst_nrTimer : (reinitOnRst s).nrTimer = Timer.zero := rfl
@[simp] theorem reinitOnRst_rebootTimer : (reinitOnRst s).rebootTimer = Timer.started := rfl
@[simp] theorem reinitOnRst_txHigh : (reinitOnRst s).txHigh = [] := rfl
@[simp] theorem reinitOnRst_txNorm : (reinitOnRst s).txNorm = [] := rfl
@[simp] theorem reinitOnRst_reTx : (reinitOnRst s).reTx = [] := rfl
@[simp] theorem reinitOnRst_rxBuf : (reinitOnRst s).rxBuf = s.rxBuf := rfl
@[simp] theorem reinitOnRst_enc : (reinitOnRst s).enc = { s.enc with phase := .done, esc := none } := rfl
@[simp] theorem reinitOnRst_dec : (reinitOnRst s).dec = s.dec := rfl
@[simp] theorem reinitOnRst_lineIn : (reinitOnRst s).lineIn = s.lineIn := rfl
@[simp] theorem reinitOnRst_lineOut : (reinitOnRst s).lineOut = s.lineOut := rfl
@[simp] theorem reinitOnRst_wrAnswers : (reinitOnRst s).wrAnswers = s.wrAnswers := rfl
@[simp] theorem reinitOnRst_resetReasonIn : (reinitOnRst s).resetReasonIn = s.resetReasonIn := rfl
@[simp] theorem reinitOnRst_script : (reinitOnRst s).script = s.script := rfl
@[simp] theorem reinitOnRst_returns : (reinitOnRst s).returns = s.returns := rfl
@[simp] theorem reinitOnRst_activity : (reinitOnRst s).activity = s.activity := rfl
@[simp] theorem reinitOnRst_rxFrame : (reinitOnRst s).rxFrame = s.rxFrame := rfl
@[simp] theorem reinitOnRst_freeDraws : (reinitOnRst s).freeDraws = s.freeDraws := rfl

/-! ### `linkDown` (45_connection.md R326). -/

@[simp] theorem linkDown_cfg (code : Byte) (e : Bool) : (linkDown code e s).cfg = s.cfg := rfl
@[simp] theorem linkDown_rej (code : Byte) (e : Bool) : (linkDown code e s).rej = false := rfl
@[simp] theorem linkDown_retx (code : Byte) (e : Bool) : (linkDown code e s).retx = false := rfl
@[simp] theorem linkDown_nak (code : Byte) (e : Bool) : (linkDown code e s).nak = false := rfl
@[simp] theorem linkDown_ack (code : Byte) (e : Bool) : (linkDown code e s).ack = false := rfl
@[simp] theorem linkDown_rstack (code : Byte) (e : Bool) : (linkDown code e s).rstack = false := rfl
@[simp] theorem linkDown_error (code : Byte) (e : Bool) : (linkDown code e s).error = e := rfl
@[simp] theorem linkDown_connected (code : Byte) (e : Bool) : (linkDown code e s).connected = false := rfl
@[simp] theorem linkDown_can (code : Byte) (e : Bool) : (linkDown code e s).can = canAfterAbandon s := rfl
@[simp] theorem linkDown_sendState (code : Byte) (e : Bool) : (linkDown code e s).sendState = .idle := rfl
@[simp] theorem linkDown_ackRx (code : Byte) (e : Bool) : (linkDown code e s).ackRx = 0#3 := rfl
@[simp] theorem linkDown_ackTx (code : Byte) (e : Bool) : (linkDown code e s).ackTx = 0#3 := rfl
@[simp] theorem linkDown_frmTx (code : Byte) (e : Bool) : (linkDown code e s).frmTx = 0#3 := rfl
@[simp] theorem linkDown_frmReTx (code : Byte) (e : Bool) : (linkDown code e s).frmReTx = 0#3 := rfl
@[simp] theorem linkDown_frmRx (code : Byte) (e : Bool) : (linkDown code e s).frmRx = 0#3 := rfl
@[simp] theorem linkDown_frmReTxHead (code : Byte) (e : Bool) : (linkDown code e s).frmReTxHead = 0#3 := rfl
@[simp] theorem linkDown_timeouts (code : Byte) (e : Bool) : (linkDown code e s).timeouts = 0#8 := rfl
@[simp] theorem linkDown_ackPeriod (code : Byte) (e : Bool) : (linkDown code e s).ackPeriod = BitVec.ofNat 13 s.cfg.ackTimeInit := rfl
@[simp] theorem linkDown_rstReason (code : Byte) (e : Bool) : (linkDown code e s).rstReason = s.rstReason := rfl
@[simp] theorem linkDown_errCode (code : Byte) (e : Bool) : (linkDown code e s).errCode = code := rfl
@[simp] theorem linkDown_peerErrCode (code : Byte) (e : Bool) : (linkDown code e s).peerErrCode = s.peerErrCode := rfl
@[simp] theorem linkDown_peerXoff (code : Byte) (e : Bool) : (linkDown code e s).peerXoff = s.peerXoff := rfl
@[simp] theorem linkDown_rxHeld (code : Byte) (e : Bool) : (linkDown code e s).rxHeld = s.rxHeld := rfl
@[simp] theorem linkDown_txCtl (code : Byte) (e : Bool) : (linkDown code e s).txCtl = 0#8 := rfl
@[simp] theorem linkDown_txSrcHigh (code : Byte) (e : Bool) : (linkDown code e s).txSrcHigh = false := rfl
@[simp] theorem linkDown_ackTimer (code : Byte) (e : Bool) : (linkDown code e s).ackTimer = Timer.zero := rfl
@[simp] theorem linkDown_nrTimer (code : Byte) (e : Bool) : (linkDown code e s).nrTimer = Timer.zero := rfl
@[simp] theorem linkDown_rebootTimer (code : Byte) (e : Bool) : (linkDown code e s).rebootTimer = Timer.zero := rfl
@[simp] theorem linkDown_txHigh (code : Byte) (e : Bool) : (linkDown code e s).txHigh = [] := rfl
@[simp] theorem linkDown_txNorm (code : Byte) (e : Bool) : (linkDown code e s).txNorm = [] := rfl
@[simp] theorem linkDown_reTx (code : Byte) (e : Bool) : (linkDown code e s).reTx = [] := rfl
@[simp] theorem linkDown_rxBuf (code : Byte) (e : Bool) : (linkDown code e s).rxBuf = s.rxBuf := rfl
@[simp] theorem linkDown_enc (code : Byte) (e : Bool) : (linkDown code e s).enc = { s.enc with phase := .done, esc := none } := rfl
@[simp] theorem linkDown_dec (code : Byte) (e : Bool) : (linkDown code e s).dec = s.dec := rfl
@[simp] theorem linkDown_lineIn (code : Byte) (e : Bool) : (linkDown code e s).lineIn = s.lineIn := rfl
@[simp] theorem linkDown_lineOut (code : Byte) (e : Bool) : (linkDown code e s).lineOut = s.lineOut := rfl
@[simp] theorem linkDown_wrAnswers (code : Byte) (e : Bool) : (linkDown code e s).wrAnswers = s.wrAnswers := rfl
@[simp] theorem linkDown_resetReasonIn (code : Byte) (e : Bool) : (linkDown code e s).resetReasonIn = s.resetReasonIn := rfl
@[simp] theorem linkDown_script (code : Byte) (e : Bool) : (linkDown code e s).script = s.script := rfl
@[simp] theorem linkDown_returns (code : Byte) (e : Bool) : (linkDown code e s).returns = s.returns := rfl
@[simp] theorem linkDown_activity (code : Byte) (e : Bool) : (linkDown code e s).activity = s.activity := rfl
@[simp] theorem linkDown_rxFrame (code : Byte) (e : Bool) : (linkDown code e s).rxFrame = s.rxFrame := rfl
@[simp] theorem linkDown_freeDraws (code : Byte) (e : Bool) : (linkDown code e s).freeDraws = s.freeDraws := rfl

/-! ### `hwReset` (70_reset_and_hazards.md R410). -/

@[simp] theorem hwReset_cfg : (hwReset s).cfg = s.cfg := rfl
@[simp] theorem hwReset_rej : (hwReset s).rej = false := rfl
@[simp] theorem hwReset_retx : (hwReset s).retx = false := rfl
@[simp] theorem hwReset_nak : (hwReset s).nak = false := rfl
@[simp] theorem hwReset_ack : (hwReset s).ack = false := rfl
@[simp] theorem hwReset_rstack : (hwReset s).rstack = false := rfl
@[simp] theorem hwReset_error : (hwReset s).error = false := rfl
@[simp] theorem hwReset_connected : (hwReset s).connected = false := rfl
@[simp] theorem hwReset_can : (hwReset s).can = false := rfl
@[simp] theorem hwReset_sendState : (hwReset s).sendState = .idle := rfl
@[simp] theorem hwReset_ackRx : (hwReset s).ackRx = 0#3 := rfl
@[simp] theorem hwReset_ackTx : (hwReset s).ackTx = 0#3 := rfl
@[simp] theorem hwReset_frmTx : (hwReset s).frmTx = 0#3 := rfl
@[simp] theorem hwReset_frmReTx : (hwReset s).frmReTx = 0#3 := rfl
@[simp] theorem hwReset_frmRx : (hwReset s).frmRx = 0#3 := rfl
@[simp] theorem hwReset_frmReTxHead : (hwReset s).frmReTxHead = 0#3 := rfl
@[simp] theorem hwReset_timeouts : (hwReset s).timeouts = 0#8 := rfl
@[simp] theorem hwReset_ackPeriod : (hwReset s).ackPeriod = BitVec.ofNat 13 s.cfg.ackTimeInit := rfl
@[simp] theorem hwReset_rstReason : (hwReset s).rstReason = s.cfg.rsnUnknown := rfl
@[simp] theorem hwReset_errCode : (hwReset s).errCode = s.cfg.errcNoLink := rfl
@[simp] theorem hwReset_peerErrCode : (hwReset s).peerErrCode = 0#8 := rfl
@[simp] theorem hwReset_peerXoff : (hwReset s).peerXoff = false := rfl
@[simp] theorem hwReset_rxHeld : (hwReset s).rxHeld = false := rfl
@[simp] theorem hwReset_txCtl : (hwReset s).txCtl = 0#8 := rfl
@[simp] theorem hwReset_txSrcHigh : (hwReset s).txSrcHigh = false := rfl
@[simp] theorem hwReset_ackTimer : (hwReset s).ackTimer = Timer.zero := rfl
@[simp] theorem hwReset_nrTimer : (hwReset s).nrTimer = Timer.zero := rfl
@[simp] theorem hwReset_rebootTimer : (hwReset s).rebootTimer = Timer.zero := rfl
@[simp] theorem hwReset_txHigh : (hwReset s).txHigh = [] := rfl
@[simp] theorem hwReset_txNorm : (hwReset s).txNorm = [] := rfl
@[simp] theorem hwReset_reTx : (hwReset s).reTx = [] := rfl
@[simp] theorem hwReset_rxBuf : (hwReset s).rxBuf = freeRxBuf s.freeDraws s.cfg.maxDataLen := rfl
@[simp] theorem hwReset_enc : (hwReset s).enc = Encoder.scrambled s.freeDraws { s.enc with phase := .done, esc := none } := rfl
@[simp] theorem hwReset_dec : (hwReset s).dec = Decoder.atReset := rfl
@[simp] theorem hwReset_lineIn : (hwReset s).lineIn = s.lineIn := rfl
@[simp] theorem hwReset_lineOut : (hwReset s).lineOut = s.lineOut := rfl
@[simp] theorem hwReset_wrAnswers : (hwReset s).wrAnswers = s.wrAnswers := rfl
@[simp] theorem hwReset_resetReasonIn : (hwReset s).resetReasonIn = s.resetReasonIn := rfl
@[simp] theorem hwReset_script : (hwReset s).script = s.script := rfl
@[simp] theorem hwReset_returns : (hwReset s).returns = s.returns := rfl
@[simp] theorem hwReset_activity : (hwReset s).activity = s.activity := rfl
@[simp] theorem hwReset_rxFrame : (hwReset s).rxFrame = s.rxFrame := rfl
@[simp] theorem hwReset_freeDraws : (hwReset s).freeDraws = s.freeDraws + 1 := rfl

/-! ### `handleAck` (41_arq_receive.md R199). -/

@[simp] theorem handleAck_cfg (a : SeqNum) : (handleAck a s).cfg = s.cfg := rfl
@[simp] theorem handleAck_rej (a : SeqNum) : (handleAck a s).rej = s.rej := rfl
@[simp] theorem handleAck_retx (a : SeqNum) : (handleAck a s).retx = s.retx := rfl
@[simp] theorem handleAck_nak (a : SeqNum) : (handleAck a s).nak = s.nak := rfl
@[simp] theorem handleAck_ack (a : SeqNum) : (handleAck a s).ack = s.ack := rfl
@[simp] theorem handleAck_rstack (a : SeqNum) : (handleAck a s).rstack = s.rstack := rfl
@[simp] theorem handleAck_error (a : SeqNum) : (handleAck a s).error = s.error := rfl
@[simp] theorem handleAck_connected (a : SeqNum) : (handleAck a s).connected = s.connected := rfl
@[simp] theorem handleAck_can (a : SeqNum) : (handleAck a s).can = s.can := rfl
@[simp] theorem handleAck_sendState (a : SeqNum) : (handleAck a s).sendState = s.sendState := rfl
@[simp] theorem handleAck_ackRx (a : SeqNum) : (handleAck a s).ackRx = a := rfl
@[simp] theorem handleAck_ackTx (a : SeqNum) : (handleAck a s).ackTx = s.ackTx := rfl
@[simp] theorem handleAck_frmTx (a : SeqNum) : (handleAck a s).frmTx = s.frmTx := rfl
@[simp] theorem handleAck_frmReTx (a : SeqNum) : (handleAck a s).frmReTx = s.frmReTx := rfl
@[simp] theorem handleAck_frmRx (a : SeqNum) : (handleAck a s).frmRx = s.frmRx := rfl
@[simp] theorem handleAck_frmReTxHead (a : SeqNum) : (handleAck a s).frmReTxHead = a := rfl
@[simp] theorem handleAck_timeouts (a : SeqNum) : (handleAck a s).timeouts = 0#8 := rfl
@[simp] theorem handleAck_ackPeriod (a : SeqNum) : (handleAck a s).ackPeriod = (if s.ackTimer.run = true ∧ s.retx = false then smoothPeriod s.cfg.toRawParams s.ackPeriod s.ackTimer.elapsed else s.ackPeriod) := rfl
@[simp] theorem handleAck_rstReason (a : SeqNum) : (handleAck a s).rstReason = s.rstReason := rfl
@[simp] theorem handleAck_errCode (a : SeqNum) : (handleAck a s).errCode = s.errCode := rfl
@[simp] theorem handleAck_peerErrCode (a : SeqNum) : (handleAck a s).peerErrCode = s.peerErrCode := rfl
@[simp] theorem handleAck_peerXoff (a : SeqNum) : (handleAck a s).peerXoff = s.peerXoff := rfl
@[simp] theorem handleAck_rxHeld (a : SeqNum) : (handleAck a s).rxHeld = s.rxHeld := rfl
@[simp] theorem handleAck_txCtl (a : SeqNum) : (handleAck a s).txCtl = s.txCtl := rfl
@[simp] theorem handleAck_txSrcHigh (a : SeqNum) : (handleAck a s).txSrcHigh = s.txSrcHigh := rfl
@[simp] theorem handleAck_ackTimer (a : SeqNum) : (handleAck a s).ackTimer = (if a ≠ s.frmTx then Timer.started else s.ackTimer.stop) := rfl
@[simp] theorem handleAck_nrTimer (a : SeqNum) : (handleAck a s).nrTimer = s.nrTimer := rfl
@[simp] theorem handleAck_rebootTimer (a : SeqNum) : (handleAck a s).rebootTimer = s.rebootTimer := rfl
@[simp] theorem handleAck_txHigh (a : SeqNum) : (handleAck a s).txHigh = s.txHigh := rfl
@[simp] theorem handleAck_txNorm (a : SeqNum) : (handleAck a s).txNorm = s.txNorm := rfl
@[simp] theorem handleAck_reTx (a : SeqNum) : (handleAck a s).reTx = release s.reTx (dist8 s.ackRx a) := rfl
@[simp] theorem handleAck_rxBuf (a : SeqNum) : (handleAck a s).rxBuf = s.rxBuf := rfl
@[simp] theorem handleAck_enc (a : SeqNum) : (handleAck a s).enc = s.enc := rfl
@[simp] theorem handleAck_dec (a : SeqNum) : (handleAck a s).dec = s.dec := rfl
@[simp] theorem handleAck_lineIn (a : SeqNum) : (handleAck a s).lineIn = s.lineIn := rfl
@[simp] theorem handleAck_lineOut (a : SeqNum) : (handleAck a s).lineOut = s.lineOut := rfl
@[simp] theorem handleAck_wrAnswers (a : SeqNum) : (handleAck a s).wrAnswers = s.wrAnswers := rfl
@[simp] theorem handleAck_resetReasonIn (a : SeqNum) : (handleAck a s).resetReasonIn = s.resetReasonIn := rfl
@[simp] theorem handleAck_script (a : SeqNum) : (handleAck a s).script = s.script := rfl
@[simp] theorem handleAck_returns (a : SeqNum) : (handleAck a s).returns = s.returns := rfl
@[simp] theorem handleAck_activity (a : SeqNum) : (handleAck a s).activity = s.activity := rfl
@[simp] theorem handleAck_rxFrame (a : SeqNum) : (handleAck a s).rxFrame = s.rxFrame := rfl
@[simp] theorem handleAck_freeDraws (a : SeqNum) : (handleAck a s).freeDraws = s.freeDraws := rfl

/-! ### `nrUpdate` (41_arq_receive.md R202). -/

@[simp] theorem nrUpdate_cfg (n : Bool) : (nrUpdate n s).cfg = s.cfg := rfl
@[simp] theorem nrUpdate_rej (n : Bool) : (nrUpdate n s).rej = s.rej := rfl
@[simp] theorem nrUpdate_retx (n : Bool) : (nrUpdate n s).retx = s.retx := rfl
@[simp] theorem nrUpdate_nak (n : Bool) : (nrUpdate n s).nak = s.nak := rfl
@[simp] theorem nrUpdate_ack (n : Bool) : (nrUpdate n s).ack = s.ack := rfl
@[simp] theorem nrUpdate_rstack (n : Bool) : (nrUpdate n s).rstack = s.rstack := rfl
@[simp] theorem nrUpdate_error (n : Bool) : (nrUpdate n s).error = s.error := rfl
@[simp] theorem nrUpdate_connected (n : Bool) : (nrUpdate n s).connected = s.connected := rfl
@[simp] theorem nrUpdate_can (n : Bool) : (nrUpdate n s).can = s.can := rfl
@[simp] theorem nrUpdate_sendState (n : Bool) : (nrUpdate n s).sendState = s.sendState := rfl
@[simp] theorem nrUpdate_ackRx (n : Bool) : (nrUpdate n s).ackRx = s.ackRx := rfl
@[simp] theorem nrUpdate_ackTx (n : Bool) : (nrUpdate n s).ackTx = s.ackTx := rfl
@[simp] theorem nrUpdate_frmTx (n : Bool) : (nrUpdate n s).frmTx = s.frmTx := rfl
@[simp] theorem nrUpdate_frmReTx (n : Bool) : (nrUpdate n s).frmReTx = s.frmReTx := rfl
@[simp] theorem nrUpdate_frmRx (n : Bool) : (nrUpdate n s).frmRx = s.frmRx := rfl
@[simp] theorem nrUpdate_frmReTxHead (n : Bool) : (nrUpdate n s).frmReTxHead = s.frmReTxHead := rfl
@[simp] theorem nrUpdate_timeouts (n : Bool) : (nrUpdate n s).timeouts = s.timeouts := rfl
@[simp] theorem nrUpdate_ackPeriod (n : Bool) : (nrUpdate n s).ackPeriod = s.ackPeriod := rfl
@[simp] theorem nrUpdate_rstReason (n : Bool) : (nrUpdate n s).rstReason = s.rstReason := rfl
@[simp] theorem nrUpdate_errCode (n : Bool) : (nrUpdate n s).errCode = s.errCode := rfl
@[simp] theorem nrUpdate_peerErrCode (n : Bool) : (nrUpdate n s).peerErrCode = s.peerErrCode := rfl
@[simp] theorem nrUpdate_peerXoff (n : Bool) : (nrUpdate n s).peerXoff = s.peerXoff := rfl
@[simp] theorem nrUpdate_rxHeld (n : Bool) : (nrUpdate n s).rxHeld = s.rxHeld := rfl
@[simp] theorem nrUpdate_txCtl (n : Bool) : (nrUpdate n s).txCtl = s.txCtl := rfl
@[simp] theorem nrUpdate_txSrcHigh (n : Bool) : (nrUpdate n s).txSrcHigh = s.txSrcHigh := rfl
@[simp] theorem nrUpdate_ackTimer (n : Bool) : (nrUpdate n s).ackTimer = s.ackTimer := rfl
@[simp] theorem nrUpdate_nrTimer (n : Bool) : (nrUpdate n s).nrTimer = (if n then Timer.started else s.nrTimer.stop) := rfl
@[simp] theorem nrUpdate_rebootTimer (n : Bool) : (nrUpdate n s).rebootTimer = s.rebootTimer := rfl
@[simp] theorem nrUpdate_txHigh (n : Bool) : (nrUpdate n s).txHigh = s.txHigh := rfl
@[simp] theorem nrUpdate_txNorm (n : Bool) : (nrUpdate n s).txNorm = s.txNorm := rfl
@[simp] theorem nrUpdate_reTx (n : Bool) : (nrUpdate n s).reTx = s.reTx := rfl
@[simp] theorem nrUpdate_rxBuf (n : Bool) : (nrUpdate n s).rxBuf = s.rxBuf := rfl
@[simp] theorem nrUpdate_enc (n : Bool) : (nrUpdate n s).enc = s.enc := rfl
@[simp] theorem nrUpdate_dec (n : Bool) : (nrUpdate n s).dec = s.dec := rfl
@[simp] theorem nrUpdate_lineIn (n : Bool) : (nrUpdate n s).lineIn = s.lineIn := rfl
@[simp] theorem nrUpdate_lineOut (n : Bool) : (nrUpdate n s).lineOut = s.lineOut := rfl
@[simp] theorem nrUpdate_wrAnswers (n : Bool) : (nrUpdate n s).wrAnswers = s.wrAnswers := rfl
@[simp] theorem nrUpdate_resetReasonIn (n : Bool) : (nrUpdate n s).resetReasonIn = s.resetReasonIn := rfl
@[simp] theorem nrUpdate_script (n : Bool) : (nrUpdate n s).script = s.script := rfl
@[simp] theorem nrUpdate_returns (n : Bool) : (nrUpdate n s).returns = s.returns := rfl
@[simp] theorem nrUpdate_activity (n : Bool) : (nrUpdate n s).activity = s.activity := rfl
@[simp] theorem nrUpdate_rxFrame (n : Bool) : (nrUpdate n s).rxFrame = s.rxFrame := rfl
@[simp] theorem nrUpdate_freeDraws (n : Bool) : (nrUpdate n s).freeDraws = s.freeDraws := rfl

/-! ### `cancelStep` (42_arq_transmit.md R231). -/

@[simp] theorem cancelStep_cfg : (cancelStep s).cfg = s.cfg := rfl
@[simp] theorem cancelStep_rej : (cancelStep s).rej = s.rej := rfl
@[simp] theorem cancelStep_retx : (cancelStep s).retx = s.retx := rfl
@[simp] theorem cancelStep_nak : (cancelStep s).nak = s.nak := rfl
@[simp] theorem cancelStep_ack : (cancelStep s).ack = s.ack := rfl
@[simp] theorem cancelStep_rstack : (cancelStep s).rstack = s.rstack := rfl
@[simp] theorem cancelStep_error : (cancelStep s).error = s.error := rfl
@[simp] theorem cancelStep_connected : (cancelStep s).connected = s.connected := rfl
@[simp] theorem cancelStep_can : (cancelStep s).can = false := rfl
@[simp] theorem cancelStep_sendState : (cancelStep s).sendState = s.sendState := rfl
@[simp] theorem cancelStep_ackRx : (cancelStep s).ackRx = s.ackRx := rfl
@[simp] theorem cancelStep_ackTx : (cancelStep s).ackTx = s.ackTx := rfl
@[simp] theorem cancelStep_frmTx : (cancelStep s).frmTx = s.frmTx := rfl
@[simp] theorem cancelStep_frmReTx : (cancelStep s).frmReTx = s.frmReTx := rfl
@[simp] theorem cancelStep_frmRx : (cancelStep s).frmRx = s.frmRx := rfl
@[simp] theorem cancelStep_frmReTxHead : (cancelStep s).frmReTxHead = s.frmReTxHead := rfl
@[simp] theorem cancelStep_timeouts : (cancelStep s).timeouts = s.timeouts := rfl
@[simp] theorem cancelStep_ackPeriod : (cancelStep s).ackPeriod = s.ackPeriod := rfl
@[simp] theorem cancelStep_rstReason : (cancelStep s).rstReason = s.rstReason := rfl
@[simp] theorem cancelStep_errCode : (cancelStep s).errCode = s.errCode := rfl
@[simp] theorem cancelStep_peerErrCode : (cancelStep s).peerErrCode = s.peerErrCode := rfl
@[simp] theorem cancelStep_peerXoff : (cancelStep s).peerXoff = s.peerXoff := rfl
@[simp] theorem cancelStep_rxHeld : (cancelStep s).rxHeld = s.rxHeld := rfl
@[simp] theorem cancelStep_txCtl : (cancelStep s).txCtl = s.txCtl := rfl
@[simp] theorem cancelStep_txSrcHigh : (cancelStep s).txSrcHigh = s.txSrcHigh := rfl
@[simp] theorem cancelStep_ackTimer : (cancelStep s).ackTimer = s.ackTimer := rfl
@[simp] theorem cancelStep_nrTimer : (cancelStep s).nrTimer = s.nrTimer := rfl
@[simp] theorem cancelStep_rebootTimer : (cancelStep s).rebootTimer = s.rebootTimer := rfl
@[simp] theorem cancelStep_txHigh : (cancelStep s).txHigh = s.txHigh := rfl
@[simp] theorem cancelStep_txNorm : (cancelStep s).txNorm = s.txNorm := rfl
@[simp] theorem cancelStep_reTx : (cancelStep s).reTx = s.reTx := rfl
@[simp] theorem cancelStep_rxBuf : (cancelStep s).rxBuf = s.rxBuf := rfl
@[simp] theorem cancelStep_enc : (cancelStep s).enc = s.enc := rfl
@[simp] theorem cancelStep_dec : (cancelStep s).dec = s.dec := rfl
@[simp] theorem cancelStep_lineIn : (cancelStep s).lineIn = s.lineIn := rfl
@[simp] theorem cancelStep_lineOut : (cancelStep s).lineOut = s.lineOut ++ [0x1A#8] := rfl
@[simp] theorem cancelStep_wrAnswers : (cancelStep s).wrAnswers = s.wrAnswers := rfl
@[simp] theorem cancelStep_resetReasonIn : (cancelStep s).resetReasonIn = s.resetReasonIn := rfl
@[simp] theorem cancelStep_script : (cancelStep s).script = s.script := rfl
@[simp] theorem cancelStep_returns : (cancelStep s).returns = s.returns := rfl
@[simp] theorem cancelStep_activity : (cancelStep s).activity = s.activity := rfl
@[simp] theorem cancelStep_rxFrame : (cancelStep s).rxFrame = s.rxFrame := rfl
@[simp] theorem cancelStep_freeDraws : (cancelStep s).freeDraws = s.freeDraws := rfl

/-! ### The end of a frame (42_arq_transmit.md R249). -/

@[simp] theorem endFrame_cfg : (endFrame s).cfg = s.cfg := rfl
@[simp] theorem endFrame_rej : (endFrame s).rej = s.rej := rfl
@[simp] theorem endFrame_retx : (endFrame s).retx = s.retx := rfl
@[simp] theorem endFrame_nak : (endFrame s).nak = s.nak := rfl
@[simp] theorem endFrame_ack : (endFrame s).ack = s.ack := rfl
@[simp] theorem endFrame_rstack : (endFrame s).rstack = s.rstack := rfl
@[simp] theorem endFrame_error : (endFrame s).error = s.error := rfl
@[simp] theorem endFrame_connected : (endFrame s).connected = s.connected := rfl
@[simp] theorem endFrame_can : (endFrame s).can = s.can := rfl
@[simp] theorem endFrame_sendState : (endFrame s).sendState = .idle := rfl
@[simp] theorem endFrame_ackRx : (endFrame s).ackRx = s.ackRx := rfl
@[simp] theorem endFrame_ackTx : (endFrame s).ackTx = s.ackTx := rfl
@[simp] theorem endFrame_frmTx : (endFrame s).frmTx = s.frmTx := rfl
@[simp] theorem endFrame_frmReTx : (endFrame s).frmReTx = s.frmReTx := rfl
@[simp] theorem endFrame_frmRx : (endFrame s).frmRx = s.frmRx := rfl
@[simp] theorem endFrame_frmReTxHead : (endFrame s).frmReTxHead = s.frmReTxHead := rfl
@[simp] theorem endFrame_timeouts : (endFrame s).timeouts = s.timeouts := rfl
@[simp] theorem endFrame_ackPeriod : (endFrame s).ackPeriod = s.ackPeriod := rfl
@[simp] theorem endFrame_rstReason : (endFrame s).rstReason = s.rstReason := rfl
@[simp] theorem endFrame_errCode : (endFrame s).errCode = s.errCode := rfl
@[simp] theorem endFrame_peerErrCode : (endFrame s).peerErrCode = s.peerErrCode := rfl
@[simp] theorem endFrame_peerXoff : (endFrame s).peerXoff = s.peerXoff := rfl
@[simp] theorem endFrame_rxHeld : (endFrame s).rxHeld = s.rxHeld := rfl
@[simp] theorem endFrame_txCtl : (endFrame s).txCtl = s.txCtl := rfl
@[simp] theorem endFrame_txSrcHigh : (endFrame s).txSrcHigh = s.txSrcHigh := rfl
@[simp] theorem endFrame_ackTimer : (endFrame s).ackTimer = s.ackTimer := rfl
@[simp] theorem endFrame_nrTimer : (endFrame s).nrTimer = s.nrTimer := rfl
@[simp] theorem endFrame_rebootTimer : (endFrame s).rebootTimer = s.rebootTimer := rfl
@[simp] theorem endFrame_txHigh : (endFrame s).txHigh = s.txHigh := rfl
@[simp] theorem endFrame_txNorm : (endFrame s).txNorm = s.txNorm := rfl
@[simp] theorem endFrame_reTx : (endFrame s).reTx = s.reTx := rfl
@[simp] theorem endFrame_rxBuf : (endFrame s).rxBuf = s.rxBuf := rfl
@[simp] theorem endFrame_enc : (endFrame s).enc = Encoder.scrambled s.freeDraws s.enc := rfl
@[simp] theorem endFrame_dec : (endFrame s).dec = s.dec := rfl
@[simp] theorem endFrame_lineIn : (endFrame s).lineIn = s.lineIn := rfl
@[simp] theorem endFrame_lineOut : (endFrame s).lineOut = s.lineOut := rfl
@[simp] theorem endFrame_wrAnswers : (endFrame s).wrAnswers = s.wrAnswers := rfl
@[simp] theorem endFrame_resetReasonIn : (endFrame s).resetReasonIn = s.resetReasonIn := rfl
@[simp] theorem endFrame_script : (endFrame s).script = s.script := rfl
@[simp] theorem endFrame_returns : (endFrame s).returns = s.returns := rfl
@[simp] theorem endFrame_activity : (endFrame s).activity = s.activity := rfl
@[simp] theorem endFrame_rxFrame : (endFrame s).rxFrame = s.rxFrame := rfl
@[simp] theorem endFrame_freeDraws : (endFrame s).freeDraws = s.freeDraws + 1 := rfl

/-! ### Completion of a retransmitted frame (42_arq_transmit.md R252). -/

@[simp] theorem completeRetx_cfg : (completeRetx s).cfg = s.cfg := rfl
@[simp] theorem completeRetx_rej : (completeRetx s).rej = s.rej := rfl
@[simp] theorem completeRetx_retx : (completeRetx s).retx = s.retx := rfl
@[simp] theorem completeRetx_nak : (completeRetx s).nak = s.nak := rfl
@[simp] theorem completeRetx_ack : (completeRetx s).ack = s.ack := rfl
@[simp] theorem completeRetx_rstack : (completeRetx s).rstack = s.rstack := rfl
@[simp] theorem completeRetx_error : (completeRetx s).error = s.error := rfl
@[simp] theorem completeRetx_connected : (completeRetx s).connected = s.connected := rfl
@[simp] theorem completeRetx_can : (completeRetx s).can = s.can := rfl
@[simp] theorem completeRetx_sendState : (completeRetx s).sendState = .idle := rfl
@[simp] theorem completeRetx_ackRx : (completeRetx s).ackRx = s.ackRx := rfl
@[simp] theorem completeRetx_ackTx : (completeRetx s).ackTx = s.ackTx := rfl
@[simp] theorem completeRetx_frmTx : (completeRetx s).frmTx = s.frmTx := rfl
@[simp] theorem completeRetx_frmReTx : (completeRetx s).frmReTx = inc8 s.frmReTx := rfl
@[simp] theorem completeRetx_frmRx : (completeRetx s).frmRx = s.frmRx := rfl
@[simp] theorem completeRetx_frmReTxHead : (completeRetx s).frmReTxHead = s.frmReTxHead := rfl
@[simp] theorem completeRetx_timeouts : (completeRetx s).timeouts = s.timeouts := rfl
@[simp] theorem completeRetx_ackPeriod : (completeRetx s).ackPeriod = s.ackPeriod := rfl
@[simp] theorem completeRetx_rstReason : (completeRetx s).rstReason = s.rstReason := rfl
@[simp] theorem completeRetx_errCode : (completeRetx s).errCode = s.errCode := rfl
@[simp] theorem completeRetx_peerErrCode : (completeRetx s).peerErrCode = s.peerErrCode := rfl
@[simp] theorem completeRetx_peerXoff : (completeRetx s).peerXoff = s.peerXoff := rfl
@[simp] theorem completeRetx_rxHeld : (completeRetx s).rxHeld = s.rxHeld := rfl
@[simp] theorem completeRetx_txCtl : (completeRetx s).txCtl = s.txCtl := rfl
@[simp] theorem completeRetx_txSrcHigh : (completeRetx s).txSrcHigh = s.txSrcHigh := rfl
@[simp] theorem completeRetx_ackTimer : (completeRetx s).ackTimer = s.ackTimer.startIfStopped := rfl
@[simp] theorem completeRetx_nrTimer : (completeRetx s).nrTimer = s.nrTimer := rfl
@[simp] theorem completeRetx_rebootTimer : (completeRetx s).rebootTimer = s.rebootTimer := rfl
@[simp] theorem completeRetx_txHigh : (completeRetx s).txHigh = s.txHigh := rfl
@[simp] theorem completeRetx_txNorm : (completeRetx s).txNorm = s.txNorm := rfl
@[simp] theorem completeRetx_reTx : (completeRetx s).reTx = s.reTx := rfl
@[simp] theorem completeRetx_rxBuf : (completeRetx s).rxBuf = s.rxBuf := rfl
@[simp] theorem completeRetx_enc : (completeRetx s).enc = Encoder.scrambled s.freeDraws s.enc := rfl
@[simp] theorem completeRetx_dec : (completeRetx s).dec = s.dec := rfl
@[simp] theorem completeRetx_lineIn : (completeRetx s).lineIn = s.lineIn := rfl
@[simp] theorem completeRetx_lineOut : (completeRetx s).lineOut = s.lineOut := rfl
@[simp] theorem completeRetx_wrAnswers : (completeRetx s).wrAnswers = s.wrAnswers := rfl
@[simp] theorem completeRetx_resetReasonIn : (completeRetx s).resetReasonIn = s.resetReasonIn := rfl
@[simp] theorem completeRetx_script : (completeRetx s).script = s.script := rfl
@[simp] theorem completeRetx_returns : (completeRetx s).returns = s.returns := rfl
@[simp] theorem completeRetx_activity : (completeRetx s).activity = s.activity := rfl
@[simp] theorem completeRetx_rxFrame : (completeRetx s).rxFrame = s.rxFrame := rfl
@[simp] theorem completeRetx_freeDraws : (completeRetx s).freeDraws = s.freeDraws + 1 := rfl

/-! ### `tick` (43_timers.md R270). -/

@[simp] theorem tick_cfg (d : Nat) : (tick d s).cfg = s.cfg := rfl
@[simp] theorem tick_rej (d : Nat) : (tick d s).rej = s.rej := rfl
@[simp] theorem tick_retx (d : Nat) : (tick d s).retx = s.retx := rfl
@[simp] theorem tick_nak (d : Nat) : (tick d s).nak = s.nak := rfl
@[simp] theorem tick_ack (d : Nat) : (tick d s).ack = s.ack := rfl
@[simp] theorem tick_rstack (d : Nat) : (tick d s).rstack = s.rstack := rfl
@[simp] theorem tick_error (d : Nat) : (tick d s).error = s.error := rfl
@[simp] theorem tick_connected (d : Nat) : (tick d s).connected = s.connected := rfl
@[simp] theorem tick_can (d : Nat) : (tick d s).can = s.can := rfl
@[simp] theorem tick_sendState (d : Nat) : (tick d s).sendState = s.sendState := rfl
@[simp] theorem tick_ackRx (d : Nat) : (tick d s).ackRx = s.ackRx := rfl
@[simp] theorem tick_ackTx (d : Nat) : (tick d s).ackTx = s.ackTx := rfl
@[simp] theorem tick_frmTx (d : Nat) : (tick d s).frmTx = s.frmTx := rfl
@[simp] theorem tick_frmReTx (d : Nat) : (tick d s).frmReTx = s.frmReTx := rfl
@[simp] theorem tick_frmRx (d : Nat) : (tick d s).frmRx = s.frmRx := rfl
@[simp] theorem tick_frmReTxHead (d : Nat) : (tick d s).frmReTxHead = s.frmReTxHead := rfl
@[simp] theorem tick_timeouts (d : Nat) : (tick d s).timeouts = s.timeouts := rfl
@[simp] theorem tick_ackPeriod (d : Nat) : (tick d s).ackPeriod = s.ackPeriod := rfl
@[simp] theorem tick_rstReason (d : Nat) : (tick d s).rstReason = s.rstReason := rfl
@[simp] theorem tick_errCode (d : Nat) : (tick d s).errCode = s.errCode := rfl
@[simp] theorem tick_peerErrCode (d : Nat) : (tick d s).peerErrCode = s.peerErrCode := rfl
@[simp] theorem tick_peerXoff (d : Nat) : (tick d s).peerXoff = s.peerXoff := rfl
@[simp] theorem tick_rxHeld (d : Nat) : (tick d s).rxHeld = s.rxHeld := rfl
@[simp] theorem tick_txCtl (d : Nat) : (tick d s).txCtl = s.txCtl := rfl
@[simp] theorem tick_txSrcHigh (d : Nat) : (tick d s).txSrcHigh = s.txSrcHigh := rfl
@[simp] theorem tick_ackTimer (d : Nat) : (tick d s).ackTimer = s.ackTimer.advance d := rfl
@[simp] theorem tick_nrTimer (d : Nat) : (tick d s).nrTimer = s.nrTimer.advance d := rfl
@[simp] theorem tick_rebootTimer (d : Nat) : (tick d s).rebootTimer = s.rebootTimer.advance d := rfl
@[simp] theorem tick_txHigh (d : Nat) : (tick d s).txHigh = s.txHigh := rfl
@[simp] theorem tick_txNorm (d : Nat) : (tick d s).txNorm = s.txNorm := rfl
@[simp] theorem tick_reTx (d : Nat) : (tick d s).reTx = s.reTx := rfl
@[simp] theorem tick_rxBuf (d : Nat) : (tick d s).rxBuf = s.rxBuf := rfl
@[simp] theorem tick_enc (d : Nat) : (tick d s).enc = s.enc := rfl
@[simp] theorem tick_dec (d : Nat) : (tick d s).dec = s.dec := rfl
@[simp] theorem tick_lineIn (d : Nat) : (tick d s).lineIn = s.lineIn := rfl
@[simp] theorem tick_lineOut (d : Nat) : (tick d s).lineOut = s.lineOut := rfl
@[simp] theorem tick_wrAnswers (d : Nat) : (tick d s).wrAnswers = s.wrAnswers := rfl
@[simp] theorem tick_resetReasonIn (d : Nat) : (tick d s).resetReasonIn = s.resetReasonIn := rfl
@[simp] theorem tick_script (d : Nat) : (tick d s).script = s.script := rfl
@[simp] theorem tick_returns (d : Nat) : (tick d s).returns = s.returns := rfl
@[simp] theorem tick_activity (d : Nat) : (tick d s).activity = s.activity := rfl
@[simp] theorem tick_rxFrame (d : Nat) : (tick d s).rxFrame = s.rxFrame := rfl
@[simp] theorem tick_freeDraws (d : Nat) : (tick d s).freeDraws = s.freeDraws := rfl

/-! ### Timers and codec registers -/

@[simp] theorem Timer.stop_run (t : Timer) : t.stop.run = false := rfl
@[simp] theorem Timer.stop_elapsed (t : Timer) : t.stop.elapsed = t.elapsed := rfl
@[simp] theorem Timer.zero_run : Timer.zero.run = false := rfl
@[simp] theorem Timer.zero_elapsed : Timer.zero.elapsed = 0#16 := rfl
@[simp] theorem Timer.started_run : Timer.started.run = true := rfl
@[simp] theorem Timer.started_elapsed : Timer.started.elapsed = 0#16 := rfl
@[simp] theorem Encoder.scrambled_phase (n : Nat) (e : Encoder) : (Encoder.scrambled n e).phase = e.phase := rfl
@[simp] theorem Encoder.scrambled_esc (n : Nat) (e : Encoder) : (Encoder.scrambled n e).esc = e.esc := rfl
@[simp] theorem decClear_frame (d : Decoder) : (decClear d).frame = [] := rfl
@[simp] theorem decClear_esc (d : Decoder) : (decClear d).esc = false := rfl
@[simp] theorem decClear_err (d : Decoder) : (decClear d).err = false := rfl
@[simp] theorem decClear_ovf (d : Decoder) : (decClear d).ovf = false := rfl
@[simp] theorem decClear_drop (d : Decoder) : (decClear d).drop = d.drop := rfl
@[simp] theorem freeRxBuf_length (n len : Nat) : (freeRxBuf n len).length = len := by simp [freeRxBuf]

end Sys2Proof.Machine
end

