-- ==== Sys2Proof/Laws/Transmit.lean ====
section
/-! SUPPORT. What the transmit sequencer can do, procedure by procedure. -/

namespace Sys2Proof.Laws

open Sys2Proof.Machine

theorem housekeeping_form (s : State) : ∃ rx fr, housekeeping s = { s with retx := rx, frmReTx := fr } := by
  unfold housekeeping
  split
  · exact ⟨_, _, rfl⟩
  · exact ⟨s.retx, s.frmReTx, rfl⟩

theorem beginFrame_ok {i : Instr} {field : List Byte} {next : SendState} {s t : State}
    (h : beginFrame i field next s = .ok t) :
    s.enc.phase = .done ∧
      t = { s with txCtl := encode i, enc := encStart s.cfg.toRawParams (encode i :: field), sendState := next } := by
  unfold beginFrame at h
  split at h
  · injection h with h; exact ⟨‹_›, h.symm⟩
  · cases h

/-- The registers the start of a frame can write, and what its control byte can be. -/
theorem startFrame_cases {sel : Selection} {s t : State} (h : startFrame sel s = .ok t) :
    s.enc.phase = .done ∧ ∃ i field next er rt nk ak atx hi,
      i.level = .control ∧ next ≠ .idle ∧ (er = true → s.error = true) ∧
      t = { s with
        error := er, rebootTimer := rt, nak := nk, ack := ak, ackTx := atx, txSrcHigh := hi, txCtl := encode i
        enc := encStart s.cfg.toRawParams (encode i :: field), sendState := next } := by
  cases sel <;> simp only [startFrame, startError, startRstack, startNak, startAck, startRetx, startData] at h
  · obtain ⟨h1, h2⟩ := beginFrame_ok h
    exact ⟨h1, _, _, _, _, s.rebootTimer, s.nak, s.ack, s.ackTx, s.txSrcHigh, by rfl, by simp, by simp, h2⟩
  · obtain ⟨h1, h2⟩ := beginFrame_ok h
    exact ⟨h1, _, _, _, s.error, _, s.nak, s.ack, s.ackTx, s.txSrcHigh, by rfl, by simp, by simp, h2⟩
  · obtain ⟨h1, h2⟩ := beginFrame_ok h
    exact ⟨h1, _, _, _, s.error, s.rebootTimer, _, _, _, s.txSrcHigh, by rfl, by simp, by simp, h2⟩
  · obtain ⟨h1, h2⟩ := beginFrame_ok h
    exact ⟨h1, _, _, _, s.error, s.rebootTimer, s.nak, _, _, s.txSrcHigh, by rfl, by simp, by simp, h2⟩
  · split at h
    · cases h
    · obtain ⟨h1, h2⟩ := beginFrame_ok h
      exact ⟨h1, _, _, _, s.error, s.rebootTimer, s.nak, s.ack, _, s.txSrcHigh, by rfl, by simp, by simp, h2⟩
  · split at h
    · cases h
    · obtain ⟨h1, h2⟩ := beginFrame_ok h
      exact ⟨h1, _, _, _, s.error, s.rebootTimer, s.nak, s.ack, _, _, by rfl, by simp, by simp, h2⟩
  · split at h
    · cases h
    · obtain ⟨h1, h2⟩ := beginFrame_ok h
      exact ⟨h1, _, _, _, s.error, s.rebootTimer, s.nak, s.ack, _, _, by rfl, by simp, by simp, h2⟩

theorem completeFrame_cases {s t : State} (h : completeFrame s = .ok t) :
    (s.sendState = .sendingShortFrame ∧ s.txCtl = 0xC1#8 ∧ t = endFrame { s with rstack := false, connected := true }) ∨
    (s.sendState = .sendingShortFrame ∧ s.txCtl ≠ 0xC1#8 ∧ t = endFrame s) ∨
    (s.sendState = .sendingDataFrame ∧ ∃ p rest, txQueue s.txSrcHigh s = p :: rest ∧
      t = endFrame { s with
        txHigh := if s.txSrcHigh then rest else s.txHigh
        txNorm := if s.txSrcHigh then s.txNorm else rest
        reTx := s.reTx ++ [p], frmTx := inc8 s.frmTx, ackTimer := s.ackTimer.startIfStopped }) ∨
    (s.sendState = .retransmittingDataFrame ∧ t = completeRetx s) := by
  unfold completeFrame at h
  split at h
  · cases h
  · injection h with h
    unfold completeShort at h
    split at h
    · exact .inl ⟨‹_›, ‹_›, h.symm⟩
    · exact .inr (.inl ⟨‹_›, ‹_›, h.symm⟩)
  · unfold completeData at h
    split at h
    · cases h
    · injection h with h
      exact .inr (.inr (.inl ⟨‹_›, _, _, ‹_›, h.symm⟩))
  · injection h with h
    exact .inr (.inr (.inr ⟨‹_›, h.symm⟩))

theorem continueFrame_cases {s t : State} {r : SendResult} (h : continueFrame s = .ok (r, t)) :
    r = .sent ∧ ∃ b e, encNext s.cfg.toRawParams s.enc = some (b, e) ∧
      ((e.phase ≠ .done ∧ t = { writeByte b s with enc := e }) ∨
       (e.phase = .done ∧ completeFrame { writeByte b s with enc := e } = .ok t)) := by
  unfold continueFrame at h
  split at h
  · cases h
  · rename_i b e he
    dsimp only at h
    split at h
    · rename_i hd
      simp only [encDone, decide_eq_true_eq] at hd
      rcases hc : completeFrame { writeByte b s with enc := e } with f | u
      · rw [hc] at h; cases h
      · rw [hc] at h
        injection h with h
        injection h with h1 h2
        exact ⟨h1.symm, b, e, he, .inr ⟨hd, by rw [← h2]; exact hc⟩⟩
    · rename_i hd
      simp only [encDone, decide_eq_true_eq] at hd
      injection h with h
      injection h with h1 h2
      exact ⟨h1.symm, b, e, he, .inl ⟨hd, h2.symm⟩⟩

/-- The four ways of one call of `sendStep`: the CANCEL byte, nothing to send, a new frame, the next byte. -/
theorem sendStep_cases {s t : State} {r : SendResult} (h : sendStep s = .ok (r, t)) :
    (s.can = true ∧ r = .sent ∧ t = cancelStep s) ∨
    (s.can = false ∧ s.sendState = .idle ∧ selectNext (housekeeping s) = none ∧ r = .nothingToSend ∧
      t = housekeeping s) ∨
    (s.can = false ∧ s.sendState = .idle ∧ ∃ sel u, selectNext (housekeeping s) = some sel ∧
      startFrame sel (housekeeping s) = .ok u ∧ continueFrame u = .ok (r, t)) ∨
    (s.can = false ∧ s.sendState ≠ .idle ∧ continueFrame s = .ok (r, t)) := by
  unfold sendStep at h
  split at h
  · injection h with h
    injection h with h1 h2
    exact .inl ⟨‹_›, h1.symm, h2.symm⟩
  · rename_i hc
    have hc : s.can = false := by simpa using hc
    split at h
    · split at h
      · injection h with h
        injection h with h1 h2
        exact .inr (.inl ⟨hc, ‹_›, ‹_›, h1.symm, h2.symm⟩)
      · split at h
        · cases h
        · exact .inr (.inr (.inl ⟨hc, ‹_›, _, _, ‹_›, ‹_›, h⟩))
    · exact .inr (.inr (.inr ⟨hc, ‹_›, h⟩))

end Sys2Proof.Laws
end

