-- ==== Sys2Proof/Laws/Step.lean ====
section
/-! SUPPORT. What one step can do, by the part of an operation it runs; the operations that write few fields; runs of
steps. -/

namespace Sys2Proof.Laws

open Sys2Proof.Machine Sys2Proof.Safety

theorem pollNr_form (s : State) : ∃ nr, pollNr s = { s with nrTimer := nr } := by
  unfold pollNr
  split
  · exact ⟨_, rfl⟩
  · exact ⟨s.nrTimer, rfl⟩

/-- Polling the timers writes timer and retransmission registers, or takes the link down. -/
theorem pollTimers_cases (s : State) :
    (∃ nr ap n rx fr ta, pollTimers s =
      (false, { s with nrTimer := nr, ackPeriod := ap, timeouts := n, retx := rx, frmReTx := fr, ackTimer := ta })) ∨
    (s.connected = true ∧ s.ackRx ≠ s.frmTx ∧ s.cfg.maxTimeouts < (s.timeouts + 1#8).toNat ∧
      ∃ nr ap, pollTimers s = (true, linkDown s.cfg.errcTimeouts true
        { s with nrTimer := nr, ackPeriod := ap, timeouts := s.timeouts + 1#8 })) := by
  unfold pollTimers
  obtain ⟨nr, h⟩ := pollNr_form s
  rw [h]
  unfold pollAck
  dsimp only
  split
  · split
    · rename_i hc
      split
      · exact .inr ⟨hc.1, hc.2, ‹_›, nr, _, rfl⟩
      · obtain ⟨rx, fr, hh⟩ := startRetransmission_form
          { s with nrTimer := nr, ackPeriod := backoffPeriod s.cfg.toRawParams s.ackPeriod, timeouts := s.timeouts + 1#8 }
        rw [hh]
        exact .inl ⟨nr, _, _, _, _, _, rfl⟩
    · exact .inl ⟨nr, s.ackPeriod, s.timeouts, s.retx, s.frmReTx, _, rfl⟩
  · exact .inl ⟨nr, s.ackPeriod, s.timeouts, s.retx, s.frmReTx, s.ackTimer, rfl⟩

theorem send_form (payload : Payload) (high : Bool) (s : State) :
    ∃ st qh qn, send payload high s = finish (.send st) { s with txHigh := qh, txNorm := qn } := by
  unfold send
  repeat' split
  all_goals first
    | exact ⟨_, s.txHigh, s.txNorm, rfl⟩
    | exact ⟨_, _, s.txNorm, rfl⟩
    | exact ⟨_, s.txHigh, _, rfl⟩

theorem rxRelease_form (s : State) :
    ∃ buf n, rxRelease s = { s with rxHeld := false, rxBuf := buf, freeDraws := n } := by
  unfold rxRelease
  split
  · exact ⟨_, _, rfl⟩
  · rename_i h
    have h : s.rxHeld = false := by simpa using h
    exact ⟨s.rxBuf, s.freeDraws, by rw [← h]⟩

theorem decodeLine_error {b : Byte} {e : NotAnInstr} (h : decodeLine b = .error e) : e = .dataByte := by
  unfold decodeLine at h
  repeat (split at h; · cases h)
  cases h; rfl

theorem decodeControl_error {c : Byte} {e : NotAnInstr} (h : decodeControl c = .error e) : e = .unassignedControl := by
  unfold decodeControl at h
  repeat (split at h; · cases h)
  cases h; rfl

/-- Every way a step gives a next state. -/
theorem step_cases {s t : State} (h : step s = .next t) :
    (s.activity = .idle ∧ s.script = [] ∧ t = s) ∨
    (s.activity = .idle ∧ ∃ e rest, s.script = e :: rest ∧ t = runEvent e { s with script := rest }) ∨
    (s.activity = .receiving ∧ s.lineIn = [] ∧ t = receiveNoByte s) ∨
    (s.activity = .receiving ∧ ∃ b rest, s.lineIn = b :: rest ∧ decodeLine b = .error .dataByte ∧
      t = dataByte b { s with lineIn := rest }) ∨
    (s.activity = .receiving ∧ ∃ b rest i, s.lineIn = b :: rest ∧ decodeLine b = .ok i ∧
      exec i { s with lineIn := rest } = .next t) ∨
    (s.activity = .frameEnd ∧ ∃ c rest, s.rxFrame = c :: rest ∧ decodeControl c = .error .unassignedControl ∧
      t = invalidFrame s) ∨
    (s.activity = .frameEnd ∧ ∃ c rest i, s.rxFrame = c :: rest ∧ decodeControl c = .ok i ∧ exec i s = .next t) ∨
    (∃ fatal, s.activity = .sending fatal ∧ ∃ answers, s.wrAnswers = true :: answers ∧
      sendStep { s with wrAnswers := answers } = .ok (.sent, t)) ∨
    (∃ fatal, s.activity = .sending fatal ∧ ∃ answers u, s.wrAnswers = true :: answers ∧
      sendStep { s with wrAnswers := answers } = .ok (.nothingToSend, u) ∧
      t = finish (.sendExec (nothingStatus fatal)) u) ∨
    (∃ fatal, s.activity = .sending fatal ∧ ∃ answers,
      (s.wrAnswers = false :: answers ∨ (s.wrAnswers = [] ∧ answers = [])) ∧
      t = finish (.sendExec (noRoomStatus fatal s)) { s with wrAnswers := answers }) := by
  obtain ha | ha | ha | ⟨f, ha⟩ : s.activity = .idle ∨ s.activity = .receiving ∨ s.activity = .frameEnd ∨
      ∃ f, s.activity = .sending f := by cases s.activity <;> simp
  all_goals simp only [step, fetch, ha] at h
  · injection h with h
    unfold nextEvent at h
    split at h
    · exact .inl ⟨ha, ‹_›, h.symm⟩
    · exact .inr (.inl ⟨ha, _, _, ‹_›, h.symm⟩)
  · unfold fetchLine at h
    obtain hl | ⟨b, rest, hl⟩ : s.lineIn = [] ∨ ∃ b rest, s.lineIn = b :: rest := by cases s.lineIn <;> simp
    · simp only [hl] at h
      injection h with h
      exact .inr (.inr (.inl ⟨ha, hl, h.symm⟩))
    · simp only [hl] at h
      rcases hd : decodeLine b with e | i <;> simp only [hd] at h
      · have := decodeLine_error hd
        subst this
        injection h with h
        exact .inr (.inr (.inr (.inl ⟨ha, _, _, hl, hd, h.symm⟩)))
      · exact .inr (.inr (.inr (.inr (.inl ⟨ha, _, _, _, hl, hd, h⟩))))
  · unfold fetchFrame at h
    obtain hl | ⟨b, rest, hl⟩ : s.rxFrame = [] ∨ ∃ b rest, s.rxFrame = b :: rest := by cases s.rxFrame <;> simp
    · simp only [hl] at h; cases h
    · simp only [hl] at h
      rcases hd : decodeControl b with e | i <;> simp only [hd] at h
      · have := decodeControl_error hd
        subst this
        injection h with h
        exact .inr (.inr (.inr (.inr (.inr (.inl ⟨ha, _, _, hl, hd, h.symm⟩)))))
      · exact .inr (.inr (.inr (.inr (.inr (.inr (.inl ⟨ha, _, _, _, hl, hd, h⟩))))))
  · refine .inr (.inr (.inr (.inr (.inr (.inr (.inr ?_))))))
    unfold sendExecPass at h
    obtain hl | ⟨b, rest, hl⟩ : s.wrAnswers = [] ∨ ∃ b rest, s.wrAnswers = b :: rest := by cases s.wrAnswers <;> simp
    · simp only [hl] at h
      injection h with h
      exact .inr (.inr ⟨f, ha, [], .inr ⟨hl, rfl⟩, by rw [← h, ← hl]⟩)
    · cases b <;> simp only [hl] at h
      · injection h with h
        exact .inr (.inr ⟨f, ha, rest, .inl hl, h.symm⟩)
      · split at h
        · cases h
        · injection h with h
          subst h
          exact .inl ⟨f, ha, rest, hl, ‹_›⟩
        · injection h with h
          exact .inr (.inl ⟨f, ha, rest, _, hl, ‹_›, h.symm⟩)

/-! ### Runs -/

theorem runSteps_succ {s t : State} (h : step s = .next t) (k : Nat) : runSteps (k + 1) s = runSteps k t := by
  simp [runSteps, h]

theorem runSteps_add (a b : Nat) (s t : State) (h : runSteps a s = .next t) : runSteps (a + b) s = runSteps b t := by
  induction a generalizing s with
  | zero =>
    simp only [runSteps, Host.Outcome.next.injEq] at h
    subst h
    simp
  | succ a ih =>
    rw [show a + 1 + b = (a + b) + 1 by omega]
    simp only [runSteps] at h ⊢
    split at h
    · exact ih _ h
    · cases h
    · cases h

end Sys2Proof.Laws
end

