-- ==== Sys2Proof/Tests/Slice0.lean ====
section
/-! SUPPORT. The model's own tests: the smoke test of WellFormed, table words written out from the layouts of
30_encoding.md R102 and R105 to R108, one small step per instruction with the expected result from 95_test_vectors.md,
and for every statement with hypotheses a state and operands that meet them. -/

namespace Sys2Proof.Tests

open Sys2Proof.Machine Sys2Proof.Safety

-- one theorem at a time: the many small kernel evaluations otherwise start a thread each
set_option Elab.async false

/-! ### WellFormed -/

/-- DATA with `frmNum = 1`, R = 0, `ackNum = 1` has the value of XON (40_codec.md R150). -/
theorem test_standsAlone_refuses : Instr.standsAlone (.data 1#3 false 1#3) = false := by decide

theorem test_standsAlone_accepts : Instr.standsAlone (.data 1#3 false 2#3) = true := by decide

/-- 00_scope.md R3: the engine never sends RST. -/
theorem test_engineMaySend_refuses_rst : Instr.engineMaySend .rst = false := by decide

/-- 30_encoding.md R106: P is sent as 0. -/
theorem test_engineMaySend_refuses_p : Instr.engineMaySend (.ack true false 3#3) = false := by decide

theorem test_bodyOk_refuses_empty : bodyOk Config.paramsT.toRawParams [] = false := by decide

theorem test_bodyOk_refuses_wake : bodyOk Config.paramsT.toRawParams [0xFF#8] = false := by decide

theorem test_bodyOk_refuses_long : bodyOk Config.paramsT.toRawParams (List.replicate 130 0#8) = false := by decide +kernel

theorem test_payloadOk_refuses_long : payloadOk Config.paramsT.toRawParams (List.replicate 129 0#8) = false := by decide +kernel

/-- R8: `txK` is 1..7. -/
theorem test_inRange_refuses_window : RawParams.inRange { Config.paramsT.toRawParams with txK := 0 } = false := by decide

theorem test_inRange_refuses_slots : RawParams.inRange { Config.paramsT.toRawParams with nTxSlots := 2 } = false := by
  decide

/-! ### Decoding: one word for every constructor, written out from the spec's encoding of it -/

theorem test_decode_data : decodeTableWord 8 0b00101100 = some (.data 2#3 true 4#3) := by decide
theorem test_decode_ack : decodeTableWord 8 0b10001110 = some (.ack false true 6#3) := by decide
theorem test_decode_nak : decodeTableWord 8 0b10110001 = some (.nak true false 1#3) := by decide
theorem test_decode_rst : decodeTableWord 8 0b11000000 = some .rst := by decide
theorem test_decode_rstack : decodeTableWord 8 0b11000001 = some .rstack := by decide
theorem test_decode_error : decodeTableWord 8 0b11000010 = some .error := by decide
theorem test_decode_flag : decodeTableWord 8 0b01111110 = some .flag := by decide
theorem test_decode_escape : decodeTableWord 8 0b01111101 = some .escape := by decide
theorem test_decode_xon : decodeTableWord 8 0b00010001 = some .xon := by decide
theorem test_decode_xoff : decodeTableWord 8 0b00010011 = some .xoff := by decide
theorem test_decode_substitute : decodeTableWord 8 0b00011000 = some .substitute := by decide
theorem test_decode_cancel : decodeTableWord 8 0b00011010 = some .cancel := by decide
theorem test_decode_wake : decodeTableWord 8 0b11111111 = some .wake := by decide
theorem test_decode_unassigned : decodeTableWord 8 0b11000011 = none := by decide

/-! ### Small states -/

/-- State S0 of 95_test_vectors.md: fresh Connected, parameter set T. -/
def s0 : State :=
  { State.reset with connected := true, rstReason := 0x0B#8, rebootTimer := { run := false, elapsed := 50#16 } }

/-- S0 inside `receive`, with bytes ready. -/
def rx (bytes : List Byte) : State := { s0 with activity := .receiving, lineIn := bytes }

/-- S0 with a frame between the codec and `processFrame`. -/
def got (f : List Byte) : State := { s0 with activity := .frameEnd, rxFrame := f }

/-- S0 inside `sendExec`, with the driver's answers. -/
def tx (answers : List Bool) : State := { s0 with activity := .sending false, wrAnswers := answers }

/-- S0 with one event to come. -/
def next (e : Event) : State := { s0 with script := [e] }

/-- The step gives a next state with a property. -/
def stepsTo (s : State) (p : State → Bool) : Bool :=
  match step s with
  | .next t => p t
  | .fault _ => false
  | .refused _ => false

/-- The same of an instruction. -/
def runsTo (i : Instr) (s : State) (p : State → Bool) : Bool :=
  match exec i s with
  | .next t => p t
  | .fault _ => false
  | .refused _ => false

/-- What the step returned to the caller. -/
def returned (t : State) (st : Status) (payload : Option Payload) : Bool :=
  decide (t.returns = [.receive st payload] ∧ t.activity = .idle)

/-! ### One step per instruction -/

/-- V-R1. -/
theorem test_data_accepted : stepsTo (got [0x00#8, 0x41#8, 0x45#8, 0xEA#8])
    (fun t => returned t .ok (some [0x41#8]) && decide (t.frmRx = 1#3 ∧ t.rxHeld = true)) = true := by decide

/-- V-R5. -/
theorem test_data_duplicate : stepsTo { got [0x08#8, 0x41#8, 0xCC#8, 0x43#8] with frmRx := 1#3, ackTx := 1#3 }
    (fun t => returned t .duplicate none && decide (t.ack = true ∧ t.frmRx = 1#3)) = true := by decide

/-- P2, step 4: one frame outstanding for 100 ms, ACK(1). -/
theorem test_ack_releases : stepsTo
    { got [0x81#8, 0x60#8, 0x59#8] with
      frmTx := 1#3, reTx := [[1#8]], ackTimer := { run := true, elapsed := 100#16 } }
    (fun t => returned t .ackReceived none &&
      decide (t.ackRx = 1#3 ∧ t.frmReTxHead = 1#3 ∧ t.reTx = [] ∧ t.ackPeriod = 750#13 ∧
        t.ackTimer = { run := false, elapsed := 100#16 })) = true := by decide

/-- P8, step 7: ACK(6) beyond `frmTx = 5`. -/
theorem test_ack_outside_window : stepsTo
    { got [0x86#8, 0x10#8, 0xBE#8] with ackRx := 4#3, frmReTxHead := 4#3, frmTx := 5#3, reTx := [[0x64#8]] }
    (fun t => returned t .badAckNum none && decide (t.rej = true ∧ t.nak = true ∧ t.ackRx = 4#3)) = true := by decide

/-- P3, step 3: NAK(0), the current ack number. -/
theorem test_nak_retransmits : stepsTo
    { got [0xA0#8, 0x54#8, 0x1A#8] with
      frmTx := 1#3, frmReTx := 5#3, reTx := [[1#8]], ackTimer := { run := true, elapsed := 30#16 } }
    (fun t => returned t .nakReceived none &&
      decide (t.retx = true ∧ t.frmReTx = 0#3 ∧ t.reTx = [[1#8]] ∧ t.ackTimer.run = true)) = true := by decide

/-- P8, step 5: NAK(4) releases two frames and starts the retransmission at the third. -/
theorem test_nak_acknowledges : stepsTo
    { got [0xA4#8, 0x14#8, 0x9E#8] with
      ackRx := 2#3, frmReTxHead := 2#3, frmTx := 5#3, reTx := [[0x62#8], [0x63#8], [0x64#8]], ackPeriod := 710#13
      ackTimer := { run := true, elapsed := 0#16 } }
    (fun t => decide (t.ackRx = 4#3 ∧ t.reTx = [[0x64#8]] ∧ t.ackPeriod = 621#13 ∧ t.retx = true ∧ t.frmReTx = 4#3))
    = true := by decide

/-- P6, step 3: RST while a DATA frame is part-sent. -/
theorem test_rst_mid_frame : stepsTo
    { got [0xC0#8, 0x38#8, 0xBC#8] with
      resetReasonIn := .powerOn, sendState := .sendingDataFrame, frmTx := 2#3, reTx := [[0x20#8], [0x10#8]]
      txNorm := [[0x30#8]], ackTimer := { run := true, elapsed := 0#16 } }
    (fun t => returned t .rstReceived none &&
      decide (t.connected = false ∧ t.rstack = true ∧ t.can = true ∧ t.sendState = .idle ∧ t.rstReason = 0x02#8 ∧
        t.txNorm = [] ∧ t.reTx = [] ∧ t.frmTx = 0#3 ∧ t.ackTimer = Timer.zero ∧ t.rebootTimer = Timer.started))
    = true := by decide

/-- V-L10: RST with one data byte is INVALID. -/
theorem test_rst_wrong_length : stepsTo (got [0xC0#8, 0x00#8, 0x0B#8, 0x5B#8])
    (fun t => returned t .badControl none && decide (t.connected = true ∧ t.nak = true)) = true := by decide

/-- V-L11: a received RSTACK is INVALID. -/
theorem test_rstack_invalid : stepsTo (got [0xC1#8, 0x02#8, 0x0B#8, 0x0A#8, 0x52#8])
    (fun t => returned t .badControl none && decide (t.connected = true ∧ t.rej = true ∧ t.nak = true)) = true := by
  decide

/-- 41_arq_receive.md R194: ERROR(51) while Connected. -/
theorem test_error_fatal : stepsTo (got [0xC2#8, 0x02#8, 0x51#8, 0xA8#8, 0xBD#8])
    (fun t => returned t .errorReceived none &&
      decide (t.connected = false ∧ t.rstack = false ∧ t.error = false ∧ t.errCode = 0x5E#8 ∧ t.peerErrCode = 0x51#8))
    = true := by decide

/-- V-L13: ERROR of three bytes is INVALID. -/
theorem test_error_wrong_length : stepsTo (got [0xC2#8, 0x38#8, 0xFE#8])
    (fun t => returned t .badControl none && decide (t.connected = true ∧ t.peerErrCode = 0#8)) = true := by decide

/-- V-D6: `80 7E` is TOO_SHORT. -/
theorem test_flag_tooShort : stepsTo { rx [0x7E#8] with dec := { frame := [0x80#8], esc := false, err := false, ovf := false, drop := false } }
    (fun t => returned t .tooShort none && decide (t.dec.frame = [] ∧ t.nak = true)) = true := by decide

/-- V-D1 at byte 4: the frame `C0 38 BC` is handed on. -/
theorem test_flag_good : stepsTo
    { rx [0x7E#8] with dec := { frame := [0xC0#8, 0x38#8, 0xBC#8], esc := false, err := false, ovf := false, drop := false } }
    (fun t => decide (t.activity = .frameEnd ∧ t.rxFrame = [0xC0#8, 0x38#8, 0xBC#8] ∧ t.dec.frame = [] ∧
      t.returns = [])) = true := by decide +kernel

/-- V-D14: a second ESCAPE changes nothing. -/
theorem test_escape : runsTo .escape { s0 with dec := { s0.dec with esc := true } }
    (fun t => decide (t.dec = { s0.dec with esc := true })) = true := by decide

/-- V-D11. -/
theorem test_xon : runsTo .xon { s0 with peerXoff := true } (fun t => decide (t = s0)) = true := by decide

/-- V-D12. -/
theorem test_xoff : runsTo .xoff s0 (fun t => decide (t.peerXoff = true ∧ decActive t.dec = false)) = true := by decide

/-- V-D10. -/
theorem test_substitute : runsTo .substitute s0 (fun t => decide (t.dec = { s0.dec with err := true })) = true := by
  decide

/-- V-D4: an idle CANCEL is ignored. -/
theorem test_cancel_idle : runsTo .cancel s0 (fun t => decide (t = s0)) = true := by decide

/-- V-D17: ESCAPE, then CANCEL. -/
theorem test_cancel_active : runsTo .cancel { rx [] with dec := { s0.dec with esc := true } }
    (fun t => returned t .cancelled none && decide (t.dec = s0.dec ∧ t.nak = false)) = true := by decide

/-- V-D19: dropped between frames. -/
theorem test_wake_idle : runsTo .wake s0 (fun t => decide (t = s0)) = true := by decide

/-- V-D18: after ESCAPE it is the data byte DF. -/
theorem test_wake_escaped : runsTo .wake { rx [] with dec := { s0.dec with esc := true } }
    (fun t => decide (t.dec = { s0.dec with frame := [0xDF#8] })) = true := by decide

/-! ### Fetch -/

/-- A table word placed in the reset state is what the next step fetches. -/
theorem test_withFetchWord_control : stepsTo (State.reset.withFetchWord 8 0xC0)
    (fun t => returned t .rstReceived none && decide (t.rstReason = 0x0B#8)) = true := by decide +kernel

theorem test_withFetchWord_line : stepsTo (State.reset.withFetchWord 8 0x13)
    (fun t => decide (t.peerXoff = true ∧ t.lineIn = [])) = true := by decide

/-! ### The invariant of concrete states -/

/-- The invariant, field by field, as a computation. -/
def engineCheck (s : State) : Bool :=
  decide ((s.connected = true → s.rstack = false) ∧ (s.connected = true → s.error = false) ∧
    (s.rstack = true → s.error = false)) &&
  decide ((s.sendState = .idle ↔ s.enc.phase = .done) ∧ (s.enc.phase = .done → s.enc.esc = none) ∧
    (s.enc.phase = .body → s.enc.idx < s.enc.body.length)) &&
  decide (s.frmReTxHead = s.ackRx ∧ s.reTx.length = dist8 s.frmReTxHead s.frmTx ∧ dist8 s.ackRx s.frmTx ≤ s.cfg.txK) &&
  decide (slotsUsed s ≤ s.cfg.nTxSlots ∧ (∀ p ∈ s.txHigh, p.length ≤ s.cfg.maxDataLen) ∧
    (∀ p ∈ s.txNorm, p.length ≤ s.cfg.maxDataLen) ∧ ∀ p ∈ s.reTx, p.length ≤ s.cfg.maxDataLen) &&
  decide ((s.sendState = .sendingDataFrame → s.connected = true ∧ dist8 s.ackRx s.frmTx < s.cfg.txK ∧
      (txQueue s.txSrcHigh s).head? = some (s.enc.body.drop 1) ∧ ctlFrmNum s.txCtl = s.frmTx) ∧
    (s.sendState = .retransmittingDataFrame → s.connected = true) ∧
    (s.sendState = .sendingShortFrame → s.txCtl = 0xC1#8 → s.rstack = true)) &&
  decide (s.cfg.ackTimeMin ≤ s.ackPeriod.toNat ∧ s.ackPeriod.toNat ≤ s.cfg.ackTimeMax ∧
    s.timeouts.toNat ≤ s.cfg.maxTimeouts) &&
  decide (s.connected = false → (s.rej = false ∧ s.retx = false ∧ s.nak = false ∧ s.ack = false) ∧
    (s.ackRx = 0#3 ∧ s.ackTx = 0#3 ∧ s.frmTx = 0#3 ∧ s.frmReTx = 0#3 ∧ s.frmRx = 0#3 ∧ s.frmReTxHead = 0#3) ∧
    (s.timeouts = 0#8 ∧ s.ackPeriod.toNat = s.cfg.ackTimeInit ∧ s.ackTimer = Timer.zero ∧ s.nrTimer = Timer.zero) ∧
    (s.txHigh = [] ∧ s.txNorm = [] ∧ s.reTx = [])) &&
  decide (s.dec.frame.length ≤ s.cfg.maxFrameLen ∧ (s.dec.ovf = true → s.dec.frame.length = s.cfg.maxFrameLen) ∧
    s.rxBuf.length = s.cfg.maxDataLen ∧ (s.rxHeld = true → s.dec.frame ≠ [] → s.dec.drop = true) ∧
    (s.dec.frame ≠ [] → s.dec.drop = false →
      s.rxBuf.take (s.dec.frame.length - 3) = framePayload s.dec.frame)) &&
  decide (s.activity ≠ .frameEnd → s.rxFrame = []) &&
  decide (s.activity = .frameEnd →
    (s.dec.frame = [] ∧ s.dec.esc = false ∧ s.dec.err = false ∧ s.dec.ovf = false) ∧ 3 ≤ s.rxFrame.length ∧
    s.rxFrame.length ≤ s.cfg.maxFrameLen ∧ crcGood s.cfg.toRawParams s.rxFrame = true ∧
    (s.rxHeld = true → s.dec.drop = true) ∧
    (s.dec.drop = false → s.rxBuf.take (s.rxFrame.length - 3) = framePayload s.rxFrame))

theorem engineInv_of_check {s : State} (h : engineCheck s = true) : EngineInv s := by
  unfold engineCheck at h
  simp only [Bool.and_eq_true, decide_eq_true_eq] at h
  obtain ⟨⟨⟨⟨⟨⟨⟨⟨⟨fl, en⟩, wi⟩, qu⟩, se⟩, ti⟩, qt⟩, de⟩, f1⟩, f2⟩ := h
  exact
  { flags := ⟨fl.1, fl.2.1, fl.2.2⟩
    encoder := ⟨en.1, en.2.1, en.2.2⟩
    window := ⟨wi.1, wi.2.1, wi.2.2⟩
    queues := ⟨qu.1, qu.2.1, qu.2.2.1, qu.2.2.2⟩
    sending := ⟨fun h => (se.1 h).1, se.2.1, fun h => (se.1 h).2.1, fun h => (se.1 h).2.2.1,
      fun h => (se.1 h).2.2.2, se.2.2⟩
    timers := ⟨ti.1, ti.2.1, ti.2.2⟩
    quiet := ⟨fun h => (qt h).1, fun h => (qt h).2.1, fun h => (qt h).2.2.1, fun h => (qt h).2.2.2⟩
    decoder := ⟨de.1, de.2.1, de.2.2.1, de.2.2.2.1, de.2.2.2.2⟩
    frame := ⟨f1, fun h => (f2 h).1, fun h => (f2 h).2.1, fun h => (f2 h).2.2.1,
      fun h => (f2 h).2.2.2.1, fun h => (f2 h).2.2.2.2.1, fun h => (f2 h).2.2.2.2.2⟩ }

/-! ### A state and operands for the hypotheses of each statement, clause by clause at the ends of the ranges -/

theorem witness_RowsRoundTrip : decodeAt .control 0x5D#8 = .ok (.data 5#3 true 5#3) ∧ decodeAt .line 0x7E#8 = .ok .flag :=
  ⟨rfl, rfl⟩

theorem witness_ControlByteTable :
    (0x00#8 &&& 0x80#8 = 0x00#8 ∧ 0x7F#8 &&& 0x80#8 = 0x00#8) ∧
    (0x80#8 &&& 0xE0#8 = 0x80#8 ∧ 0x9F#8 &&& 0xE0#8 = 0x80#8) ∧
    (0xA0#8 &&& 0xE0#8 = 0xA0#8 ∧ 0xBF#8 &&& 0xE0#8 = 0xA0#8) ∧
    (0xC3 ≤ (0xC3#8).toNat ∧ 0xC3 ≤ (0xFF#8).toNat) := by decide

theorem witness_DefaultCrcValues : Config.paramsT.crc = .ccittFalse := rfl

/-- The generated frame `81 60 59`, and one that is not (95_test_vectors.md 2.1). -/
theorem witness_CrcCheckAcceptsGenerated :
    2 ≤ [0x81#8, 0x60#8, 0x59#8].length ∧ crcGood Config.paramsT.toRawParams [0x81#8, 0x60#8, 0x59#8] = true ∧
    crcGood Config.paramsT.toRawParams [0x81#8, 0x60#8, 0x58#8] = false := by decide +kernel

/-- V-C30: six line bytes. -/
theorem witness_EncoderWritesEncodeFrame :
    [0x00#8, 0x06#8] ≠ [] ∧
    encodeFrame Config.paramsT.toRawParams [0x00#8, 0x06#8] = [0x00#8, 0x06#8, 0x7D#8, 0x5D#8, 0xC9#8, 0x7E#8] := by
  decide +kernel

theorem witness_StuffingAvoidsFiveBytesAndIsInjective : 0x5E#8 ∈ stuff [0x7E#8] ∧ stuff [0x7E#8] = stuff [0x7E#8] := by decide

/-- The shortest body, and V-C7 to be decoded. -/
theorem witness_LineRoundTrip_short :
    EngineInv (rx (encodeFrame Config.paramsT.toRawParams [0x80#8] ++ [0x7E#8])) ∧ decActive (rx []).dec = false ∧
    1 ≤ [0x80#8].length ∧ [0x80#8].length ≤ s0.cfg.maxDataLen + 1 ∧ [0x80#8].head? ≠ some 0xFF#8 :=
  ⟨engineInv_of_check (by decide +kernel), by decide, by decide, by decide, by decide⟩

/-- The longest body. -/
theorem witness_LineRoundTrip_long :
    EngineInv (rx (encodeFrame Config.paramsT.toRawParams (List.replicate 129 0x7E#8) ++ [])) ∧
    (List.replicate 129 0x7E#8).length = s0.cfg.maxDataLen + 1 ∧ (List.replicate 129 0x7E#8).head? ≠ some 0xFF#8 :=
  ⟨engineInv_of_check (by decide +kernel), by decide +kernel, by decide +kernel⟩

/-- One line byte of each clause, with the frame marked as received in error. -/
theorem witness_SubstituteDiscardsUntilFlag :
    let s : State := { rx [0x7E#8] with dec := { s0.dec with frame := [0x81#8], err := true } }
    s.activity = .receiving ∧ s.dec.err = true ∧ s.lineIn = [0x7E#8] ∧
    (∀ b ∈ [0x00#8, 0xFF#8], b ∉ [0x7E#8, 0x1A#8, 0x11#8, 0x13#8, 0x18#8, 0x7D#8]) ∧
    (∀ b ∈ [0x11#8, 0x13#8, 0x18#8, 0x7D#8], { s with lineIn := [b] }.lineIn = [b]) := by decide

/-- Between frames; in error; inside a frame, with room for one byte and with none; after ESCAPE. -/
theorem witness_WakeOutcomes :
    (s0.dec.frame = [] ∧ s0.dec.err = false ∧ s0.dec.esc = false) ∧
    { s0.dec with err := true }.err = true ∧
    (∀ n ∈ [1, 130, 131], { s0.dec with frame := List.replicate n 0#8 }.err = false ∧
      { s0.dec with frame := List.replicate n 0#8 }.frame ≠ []) ∧
    { s0.dec with esc := true }.esc = true := by decide +kernel

theorem witness_DataByteStep :
    (rx [0x00#8]).activity = .receiving ∧ (rx [0x00#8]).lineIn = [0x00#8] ∧
    (∀ b ∈ [0x00#8, 0xFE#8, 0x7F#8], b ∉ [0x7E#8, 0x1A#8, 0x11#8, 0x13#8, 0x18#8, 0x7D#8, 0xFF#8]) := by decide

/-- V-L1 to V-L17: the ends of each range. -/
theorem witness_ClassifyTable :
    (3 : Nat) ≤ 3 ∧ (3 : Nat) ≤ 131 ∧ (0x7F#8).toNat ≤ 0x7F ∧ (0x80 ≤ (0x80#8).toNat ∧ (0x9F#8).toNat ≤ 0x9F) ∧
    (0xA0 ≤ (0xA0#8).toNat ∧ (0xBF#8).toNat ≤ 0xBF) ∧ (0xC3 ≤ (0xC3#8).toNat ∧ 0xC3 ≤ (0xFF#8).toNat) := by decide

theorem witness_RstReinitialises : (got [0xC0#8, 0x38#8, 0xBC#8]).rxFrame.length = 3 := rfl

theorem witness_ErrorTakesLinkDown :
    (got [0xC2#8, 0x02#8, 0x51#8, 0xA8#8, 0xBD#8]).rxFrame = [0xC2#8, 0x02#8, 0x51#8, 0xA8#8, 0xBD#8] ∧
    s0.connected = true := ⟨rfl, rfl⟩

/-- An ACK, an ERROR and a control byte of no type, after reset. -/
theorem witness_FramesWhileNotConnected :
    let s : State := { got [0xC3#8, 0x08#8, 0xDF#8] with connected := false }
    s.connected = false ∧ s.activity = .frameEnd ∧ s.rxFrame = [0xC3#8, 0x08#8, 0xDF#8] ∧
    (Instr.ack false false 0#3).level = .control ∧ classify (encode (.ack false false 0#3)) 3 ≠ .rst ∧
    classify (encode .error) 5 ≠ .rst ∧ classify 0xC3#8 3 ≠ .rst := by decide

/-- V-L5, V-L8, V-L10, V-L13, V-L15, V-L17. -/
theorem witness_InvalidWhileConnected :
    s0.connected = true ∧ classify (encode (.ack false false 0#3)) 4 = .invalid ∧
    classify (encode (.nak false false 0#3)) 5 = .invalid ∧ classify (encode .rst) 4 = .invalid ∧
    classify (encode .error) 3 = .invalid ∧ 0xC3 ≤ (0xC3#8).toNat ∧ 0xC3 ≤ (0xFF#8).toNat ∧
    (got [0xC3#8, 0x08#8, 0xDF#8]).activity = .frameEnd := by decide

/-- The first number beyond the window, of each of the three frames. -/
theorem witness_AckNumberOutsideWindow :
    let s := { got [0x81#8, 0x60#8, 0x59#8] with frmTx := 2#3 }
    carriesAckNum (.ack false false 3#3) s.rxFrame.length 3#3 ∧ carriesAckNum (.nak false false 3#3) s.rxFrame.length 3#3 ∧
    carriesAckNum (.data 0#3 false 3#3) s.rxFrame.length 3#3 ∧ s.connected = true ∧
    dist8 s.ackRx s.frmTx < dist8 s.ackRx 3#3 :=
  ⟨.inr (.inl ⟨_, _, rfl, rfl⟩), .inr (.inr ⟨_, _, rfl, rfl⟩), .inl ⟨_, _, rfl⟩, rfl, by decide⟩

/-- Both ends of the window. -/
theorem witness_AckAccepted :
    let s := { got [0x81#8, 0x60#8, 0x59#8] with frmTx := 2#3, reTx := [[1#8], [2#8]] }
    s.rxFrame.length = 3 ∧ s.connected = true ∧ dist8 s.ackRx 0#3 ≤ dist8 s.ackRx s.frmTx ∧
    dist8 s.ackRx 2#3 ≤ dist8 s.ackRx s.frmTx := by decide

theorem witness_NakAccepted :
    let s := { got [0xA0#8, 0x54#8, 0x1A#8] with frmTx := 2#3, reTx := [[1#8], [2#8]] }
    s.rxFrame.length = 3 ∧ s.connected = true ∧ dist8 s.ackRx 0#3 ≤ dist8 s.ackRx s.frmTx ∧
    dist8 s.ackRx 2#3 ≤ dist8 s.ackRx s.frmTx := by decide

theorem witness_DataFourCases :
    let s := { got [0x02#8, 0x41#8, 0#8, 0#8] with frmTx := 2#3, reTx := [[1#8], [2#8]] }
    s.connected = true ∧ dist8 s.ackRx 0#3 ≤ dist8 s.ackRx s.frmTx ∧ dist8 s.ackRx 2#3 ≤ dist8 s.ackRx s.frmTx := by
  decide

theorem witness_InstructionsLeaveAlone :
    (∃ t, exec .xoff s0 = .next t) ∧ Instr.level .xoff = .line ∧
    ∃ t, exec (.ack false false 0#3) (got [0x80#8, 0x70#8, 0x78#8]) = .next t ∧
      Instr.level (.ack false false 0#3) = .control ∧ s0.connected = true ∧ t.connected = true :=
  ⟨⟨_, rfl⟩, rfl, _, rfl, rfl, rfl, rfl⟩

/-- REJ ends with the expected frame, and stays with the stale duplicate numbered `frmRx - 1` and while the caller holds
the buffer; a RST ends it. -/
theorem witness_RejectAsksOnce :
    let s := { got [0xC0#8, 0x38#8, 0xBC#8] with rej := true, nak := true }
    let u := { s with dec := { s.dec with drop := true } }
    s.rej = true ∧
    runsTo (.data 0#3 false 0#3) s (fun t => decide (t.rej = false ∧ t.nak = false ∧ t.frmRx = 1#3)) = true ∧
    runsTo (.data 7#3 true 0#3) s (fun t => decide (t.rej = true ∧ t.nak = true ∧ t.frmRx = 0#3)) = true ∧
    runsTo (.data 0#3 false 0#3) u (fun t => decide (t.rej = true ∧ t.nak = true ∧ t.frmRx = 0#3)) = true ∧
    runsTo .rst s (fun t => decide (t.rej = false ∧ t.nak = false ∧ t.connected = false)) = true := by decide

theorem witness_DeliveredInOrder : ∃ t, step (got [0x00#8, 0x41#8, 0x45#8, 0xEA#8]) = .next t := ⟨_, rfl⟩

theorem witness_CancelByteFirst :
    let s := { tx [true] with can := true }
    s.activity = .sending false ∧ s.wrAnswers = [true] ∧ s.can = true := ⟨rfl, rfl, rfl⟩

theorem witness_StartOfShortFrames_error : ∃ (s : State) (b : Byte) (e : Encoder),
    s.activity = .sending false ∧ s.wrAnswers = [true] ∧ s.can = false ∧ s.sendState = .idle ∧ s.enc.phase = .done ∧
    selectNext (housekeeping s) = some .error ∧
    encNext s.cfg.toRawParams (encStart s.cfg.toRawParams [0xC2#8, s.cfg.ashVersion, s.errCode]) = some (b, e) :=
  ⟨{ tx [true] with connected := false, error := true }, _, _, rfl, rfl, rfl, rfl, rfl, by decide, rfl⟩

/-- At the end of the reboot delay, 50 ms in parameter set T. -/
theorem witness_StartOfShortFrames_rstack : ∃ (s : State) (b : Byte) (e : Encoder),
    s.activity = .sending false ∧ s.wrAnswers = [true] ∧ s.can = false ∧ s.sendState = .idle ∧ s.enc.phase = .done ∧
    selectNext (housekeeping s) = some .rstack ∧
    encNext s.cfg.toRawParams (encStart s.cfg.toRawParams [0xC1#8, s.cfg.ashVersion, s.rstReason]) = some (b, e) :=
  ⟨{ tx [true] with connected := false, rstack := true, rebootTimer := { run := true, elapsed := 50#16 } }, _, _,
    rfl, rfl, rfl, rfl, rfl, by decide, rfl⟩

theorem witness_StartOfShortFrames_nak : ∃ (s : State) (b : Byte) (e : Encoder),
    s.activity = .sending false ∧ s.wrAnswers = [true] ∧ s.can = false ∧ s.sendState = .idle ∧ s.enc.phase = .done ∧
    selectNext (housekeeping s) = some .nak ∧
    encNext s.cfg.toRawParams (encStart s.cfg.toRawParams [0xA0#8 ||| s.frmRx.setWidth 8]) = some (b, e) :=
  ⟨{ tx [true] with rej := true, nak := true, frmRx := 7#3 }, _, _, rfl, rfl, rfl, rfl, rfl, by decide, rfl⟩

theorem witness_StartOfShortFrames_ack : ∃ (s : State) (b : Byte) (e : Encoder),
    s.activity = .sending false ∧ s.wrAnswers = [true] ∧ s.can = false ∧ s.sendState = .idle ∧ s.enc.phase = .done ∧
    selectNext (housekeeping s) = some .ack ∧
    encNext s.cfg.toRawParams (encStart s.cfg.toRawParams [0x80#8 ||| s.frmRx.setWidth 8]) = some (b, e) :=
  ⟨{ tx [true] with frmRx := 1#3 }, _, _, rfl, rfl, rfl, rfl, rfl, by decide, rfl⟩

theorem witness_StartOfDataFrames_retx : ∃ (s : State) (b : Byte) (e : Encoder),
    s.activity = .sending false ∧ s.wrAnswers = [true] ∧ s.can = false ∧ s.sendState = .idle ∧ s.enc.phase = .done ∧
    selectNext (housekeeping s) = some .retx ∧
    s.reTx[dist8 s.frmReTxHead (housekeeping s).frmReTx]? = some [0x41#8] ∧
    encNext s.cfg.toRawParams (encStart s.cfg.toRawParams
      ((((housekeeping s).frmReTx.setWidth 8 <<< 4) ||| 0x08#8 ||| s.frmRx.setWidth 8) :: [0x41#8])) = some (b, e) :=
  ⟨{ tx [true] with retx := true, frmTx := 1#3, reTx := [[0x41#8]] }, _, _, rfl, rfl, rfl, rfl, rfl, by decide, rfl, rfl⟩

theorem witness_StartOfDataFrames_high : ∃ (s : State) (b : Byte) (e : Encoder),
    s.activity = .sending false ∧ s.wrAnswers = [true] ∧ s.can = false ∧ s.sendState = .idle ∧ s.enc.phase = .done ∧
    selectNext (housekeeping s) = some .dataHigh ∧ s.txHigh.head? = some [] ∧
    encNext s.cfg.toRawParams (encStart s.cfg.toRawParams
      (((s.frmTx.setWidth 8 <<< 4) ||| s.frmRx.setWidth 8) :: [])) = some (b, e) :=
  ⟨{ tx [true] with txHigh := [[]], txNorm := [[0x41#8]] }, _, _, rfl, rfl, rfl, rfl, rfl, by decide, rfl, rfl⟩

theorem witness_StartOfDataFrames_norm : ∃ (s : State) (b : Byte) (e : Encoder),
    s.activity = .sending false ∧ s.wrAnswers = [true] ∧ s.can = false ∧ s.sendState = .idle ∧ s.enc.phase = .done ∧
    selectNext (housekeeping s) = some .dataNorm ∧ s.txNorm.head? = some [0x41#8] ∧
    encNext s.cfg.toRawParams (encStart s.cfg.toRawParams
      (((s.frmTx.setWidth 8 <<< 4) ||| s.frmRx.setWidth 8) :: [0x41#8])) = some (b, e) :=
  ⟨{ tx [true] with txNorm := [[0x41#8]] }, _, _, rfl, rfl, rfl, rfl, rfl, by decide, rfl, rfl⟩

/-- V-C8: ACK(1) is four line bytes, and the driver has room for exactly those. -/
theorem witness_FrameGoesOutWhole :
    let s := { tx [true, true, true, true] with frmRx := 1#3 }
    EngineInv s ∧ s.activity = .sending false ∧ s.can = false ∧ s.sendState = .idle ∧
    selectNext (housekeeping s) = some .ack ∧
    s.wrAnswers =
      List.replicate (encodeFrame s.cfg.toRawParams (frameBody .ack (housekeeping s))).length true ++ [] :=
  ⟨engineInv_of_check (by decide +kernel), rfl, rfl, rfl, by decide, by decide +kernel⟩

/-- Each kind of frame at its FLAG. -/
theorem witness_FrameCompletes : ∃ (s : State) (e : Encoder),
    (s.activity = .sending false ∧ s.wrAnswers = [true] ∧ s.can = false ∧
      encNext s.cfg.toRawParams s.enc = some (0x7E#8, e) ∧ e.phase = .done) ∧
    (s.txHigh = [[1#8]] ∧ s.txNorm = [[2#8]]) ∧
    (∀ st ∈ [SendState.sendingShortFrame, .sendingDataFrame, .retransmittingDataFrame],
      { s with sendState := st }.sendState = st) ∧
    (∀ c ∈ [0xC1#8, 0xC2#8], { s with txCtl := c }.txCtl = c) ∧
    (∀ h ∈ [true, false], { s with txSrcHigh := h }.txSrcHigh = h) :=
  ⟨{ tx [true] with
      enc := { body := [], idx := 0, crc := 0#16, esc := none, phase := .flag }
      txHigh := [[1#8]], txNorm := [[2#8]] },
    { body := [], idx := 0, crc := 0#16, esc := none, phase := .done }, by decide +kernel⟩

theorem witness_SendExecStatuses :
    ((tx [true]).activity = .sending false ∧ (tx [true]).wrAnswers = [true] ∧ (tx [true]).can = false ∧
      (tx [true]).sendState = .idle ∧ selectNext (housekeeping (tx [true])) = none) ∧
    (tx [false]).wrAnswers = [false] ∧ (tx []).wrAnswers = [] := by decide

theorem witness_HousekeepingRepairs :
    s0.retx = false ∧ { s0 with retx := true }.retx = true ∧
    (housekeeping { s0 with retx := true, frmTx := 2#3, frmReTx := 7#3 }).retx = true := by decide

/-- A byte in the middle of the ACK(1) frame. -/
theorem witness_ControlBytesSent :
    let s : State := { tx [true] with
      sendState := .sendingShortFrame, txCtl := 0x81#8
      enc := { body := [0x81#8], idx := 1, crc := 0x6059#16, esc := none, phase := .crcHi } }
    s.enc.phase ≠ .done ∧ s.enc.body.head? = some s.txCtl ∧ ∃ t, step s = .next t ∧ t.enc.phase ≠ .done :=
  ⟨by decide, by decide, _, rfl, by decide +kernel⟩

theorem witness_TickAdvances : (next (.tick 5)).activity = .idle ∧ (next (.tick 5)).script = [.tick 5] := ⟨rfl, rfl⟩

/-- Just before the period ends, and at its end: nothing outstanding, the last allowed timeout, one too many. -/
theorem witness_PollTimersEffect :
    let s (elapsed : BitVec 16) (frmTx : SeqNum) (n : BitVec 8) : State :=
      { next .sendExec with
        ackTimer := { run := true, elapsed := elapsed }, nrTimer := { run := true, elapsed := 480#16 }
        frmTx := frmTx, timeouts := n }
    (∀ n ∈ [0#8, 2#8, 3#8], TimersOk (s 800#16 1#3 n)) ∧ (s 799#16 1#3 0#8).activity = .idle ∧
    (s 799#16 1#3 0#8).script = [.sendExec] ∧ ¬ (s 799#16 1#3 0#8).ackPeriod.toNat ≤ (s 799#16 1#3 0#8).ackTimer.elapsed.toNat ∧
    (s 800#16 1#3 0#8).ackPeriod.toNat ≤ (s 800#16 1#3 0#8).ackTimer.elapsed.toNat ∧
    (s 800#16 0#3 0#8).ackRx = (s 800#16 0#3 0#8).frmTx ∧
    (s 800#16 1#3 2#8).timeouts.toNat + 1 ≤ s0.cfg.maxTimeouts ∧
    ¬ (s 800#16 1#3 3#8).timeouts.toNat + 1 ≤ s0.cfg.maxTimeouts :=
  ⟨by intro n hn; simp only [List.mem_cons, List.not_mem_nil, or_false] at hn
      rcases hn with rfl | rfl | rfl <;> exact ⟨by decide, by decide, by decide⟩,
    rfl, rfl, by decide, by decide, rfl, by decide, by decide⟩

theorem witness_NrTimerHoldsBackNormalOnly :
    let s := { s0 with nrTimer := { run := true, elapsed := 479#16 }, txHigh := [[3#8]], txNorm := [[2#8]] }
    selectNext s = some .dataHigh ∧ s.nrTimer.run = true ∧ Selection.dataHigh ≠ .dataNorm := by decide

theorem witness_SendOutcomes :
    (next (.send [1#8] true)).activity = .idle ∧ (next (.send [1#8] true)).script = [.send [1#8] true] := ⟨rfl, rfl⟩

/-- A payload of the longest legal length. -/
theorem witness_StatusQueries :
    ((next .isTxSpaceAvailable).activity = .idle ∧ (next .isTxSpaceAvailable).script = [.isTxSpaceAvailable] ∧
      (List.replicate 128 0#8).length ≤ s0.cfg.maxDataLen) ∧
    (next .isConnected).activity = .idle ∧ (next .isConnected).script = [.isConnected] := by decide +kernel

theorem witness_RxReleaseFreesBuffer :
    (next .rxRelease).activity = .idle ∧ (next .rxRelease).script = [.rxRelease] ∧ (next .rxRelease).rxHeld = false ∧
    { next .rxRelease with rxHeld := true }.rxHeld = true := ⟨rfl, rfl, rfl, rfl⟩

theorem witness_ReceiveIdleStatuses :
    ((next .receive).activity = .idle ∧ (next .receive).script = [.receive]) ∧
    ((rx []).activity = .receiving ∧ (rx []).lineIn = []) := ⟨⟨rfl, rfl⟩, rfl, rfl⟩

theorem witness_HwResetTable : (next .hwReset).activity = .idle ∧ (next .hwReset).script = [.hwReset] := ⟨rfl, rfl⟩

theorem witness_StepKeepsEngineInv : EngineInv (rx [0x13#8]) ∧ ∃ t, step (rx [0x13#8]) = .next t :=
  ⟨engineInv_of_check (by decide +kernel), _, rfl⟩

theorem witness_StepNeverStops : EngineInv (tx [true, false]) := engineInv_of_check (by decide +kernel)

/-- The FLAG of the RSTACK frame. -/
theorem witness_ConnectionTransitions :
    let s : State := { tx [true] with
      connected := false, rstack := true, sendState := .sendingShortFrame, txCtl := 0xC1#8
      enc := { body := [0xC1#8, 0x02#8, 0x0B#8], idx := 3, crc := 0x0A52#16, esc := none, phase := .flag } }
    EngineInv s ∧ ∃ t, step s = .next t ∧ connState s = .awaitingRstAck ∧ connState t = .connected :=
  ⟨engineInv_of_check (by decide +kernel), _, rfl, rfl, rfl⟩

theorem witness_StepRunsFetched :
    ((rx [0xFF#8]).activity = .receiving ∧ (rx [0xFF#8]).lineIn = [0xFF#8] ∧ decodeLine 0xFF#8 = .ok .wake) ∧
    decodeLine 0x00#8 = .error .dataByte ∧ decodeLine 0xFE#8 = .error .dataByte ∧
    ((got [0x7F#8, 0x6E#8, 0x88#8]).activity = .frameEnd ∧ (got [0x7F#8, 0x6E#8, 0x88#8]).rxFrame = [0x7F#8, 0x6E#8, 0x88#8] ∧
      decodeControl 0x7F#8 = .ok (.data 7#3 true 7#3)) ∧
    decodeControl 0xC3#8 = .error .unassignedControl ∧ decodeControl 0xFF#8 = .error .unassignedControl :=
  ⟨⟨rfl, rfl, rfl⟩, rfl, rfl, ⟨rfl, rfl, rfl⟩, rfl, rfl⟩

theorem witness_PeerXoffGatesNothing :
    (∃ t, step (rx [0x12#8]) = .next t) ∧
    (∀ rest, (rx [0x12#8]).activity = .idle → (rx [0x12#8]).script ≠ .hwReset :: rest) ∧
    (∀ b rest, (rx [0x12#8]).activity = .receiving → (rx [0x12#8]).lineIn = b :: rest → b ≠ 0x11#8 ∧ b ≠ 0x13#8) :=
  ⟨⟨_, rfl⟩, (fun _ h => by cases h), (fun b rest _ h => by cases h; decide)⟩

/-- An accepted payload that stands in the buffer, and a byte that arrives while the buffer is held. -/
theorem witness_HeldBufferKept :
    let s := { got [0x00#8, 0x41#8, 0x45#8, 0xEA#8] with rxBuf := 0x41#8 :: List.replicate 127 0#8 }
    let u := { rx [0x00#8] with rxHeld := true }
    (EngineInv s ∧ ∃ t, step s = .next t ∧ t.returns = s.returns ++ [.receive .ok (some [0x41#8])]) ∧
    EngineInv u ∧ ∃ t, step u = .next t ∧ u.rxHeld = true ∧ t.rxHeld = true :=
  ⟨⟨engineInv_of_check (by decide +kernel), _, rfl, rfl⟩,
    engineInv_of_check (by decide +kernel), _, rfl, rfl, rfl⟩

theorem witness_UnspecifiedStorageIsNeverRead :
    EngineInv (rx [0x00#8]) ∧
    sameSpecified (rx [0x00#8])
      { rx [0x00#8] with enc := { s0.enc with body := [1#8], idx := 9, crc := 3#16 }, rxBuf := [7#8], freeDraws := 5 } ∧
    ∃ t, step (rx [0x00#8]) = .next t :=
  ⟨engineInv_of_check (by decide +kernel), rfl, _, rfl⟩

theorem witness_ReceiveReturns : EngineInv (rx [0x80#8, 0x7E#8]) ∧ (rx [0x80#8, 0x7E#8]).activity = .receiving :=
  ⟨engineInv_of_check (by decide +kernel), rfl⟩

theorem witness_SendExecReturns :
    EngineInv (tx [true]) ∧ (tx [true]).activity = .sending false ∧
    EngineInv { tx [] with activity := .sending true } :=
  ⟨engineInv_of_check (by decide +kernel), rfl, engineInv_of_check (by decide +kernel)⟩

theorem witness_FrameSnapshot :
    (∃ t, exec .rst { got [0xC0#8, 0x38#8, 0xBC#8] with sendState := .sendingDataFrame } = .next t) ∧
    ∃ t, exec .xoff s0 = .next t := ⟨⟨_, rfl⟩, _, rfl⟩

theorem witness_StepsKeepParametersAndScript :
    (∃ t, step (rx [0x13#8]) = .next t) ∧ (rx [0x13#8]).activity ≠ .idle := ⟨⟨_, rfl⟩, by decide⟩

end Sys2Proof.Tests
end

section
/-! SUPPORT. What a step can do to the outgoing line, the control byte and the encoder, and the statements of the family
00_scope.md: O1, O38 and O59. -/

namespace Sys2Proof.Laws

open Sys2Proof.Machine

/-! ### Modulo-8 arithmetic (00_scope.md R11) -/

theorem inc8_toNat (x : SeqNum) : (inc8 x).toNat = (x.toNat + 1) % 8 := by
  simp [inc8, BitVec.toNat_add]

theorem dist8_eq_emod (a b : SeqNum) : (dist8 a b : Int) = ((b.toNat : Int) - (a.toNat : Int)) % 8 := by
  have ha := a.isLt
  have hd : dist8 a b = (2 ^ 3 - a.toNat + b.toNat) % 2 ^ 3 := BitVec.toNat_sub b a
  omega

theorem within8_iff (lo x hi : SeqNum) : within8 lo x hi = true ↔ dist8 lo x ≤ dist8 lo hi := decide_eq_true_iff

/-! ### The control byte and the encoder -/

/-- What a step can do to `txCtl` and the encoder: from control byte `c` and encoder `e` to `c'` and `e'`. -/
inductive ControlStep (c : Byte) (e : Encoder) (c' : Byte) (e' : Encoder) : Prop where
  /-- the control byte stays, and so does the body while a frame is in progress -/
  | kept (ctl : c' = c) (enc : e'.phase ≠ .done → e.phase ≠ .done ∧ e'.body = e.body)
  /-- `initLink` (45_connection.md R324) -/
  | cleared (ctl : c' = 0#8) (enc : e'.phase = .done)
  /-- a frame of the engine's own begins (42_arq_transmit.md R237) -/
  | started (i : Instr) (level : i.level = .control) (sendable : i.engineMaySend = true) (ctl : c' = encode i)
      (enc : e'.phase ≠ .done → e'.body.head? = some (encode i))

theorem ControlStep.refl (c : Byte) (e : Encoder) : ControlStep c e c e := .kept rfl fun h => ⟨h, rfl⟩

/-- Writing on the frame after a control step is part of that step. -/
theorem ControlStep.trans_kept {c c' : Byte} {e e' e'' : Encoder} (h : ControlStep c e c' e')
    (hk : e''.phase ≠ .done → e'.phase ≠ .done ∧ e''.body = e'.body) : ControlStep c e c' e'' := by
  cases h with
  | kept ctl enc =>
    refine .kept ctl fun hd => ?_
    obtain ⟨hd', hb⟩ := hk hd
    exact ⟨(enc hd').1, hb.trans (enc hd').2⟩
  | cleared ctl enc =>
    by_cases hd : e''.phase = .done
    · exact .cleared ctl hd
    · exact absurd enc (hk hd).1
  | started i level sendable ctl enc =>
    refine .started i level sendable ctl fun hd => ?_
    obtain ⟨hd', hb⟩ := hk hd
    exact hb ▸ enc hd'

/-- The engine never sends an RST (00_scope.md R3). -/
theorem encode_ne_rst_of_engineMaySend {i : Instr} (hl : i.level = .control) (hs : i.engineMaySend = true) :
    encode i ≠ 0xC0#8 := by
  cases i with
  | data f r a => revert f r a; decide
  | ack p n a => revert p n a; decide
  | nak p n a => revert p n a; decide
  | rst => cases hs
  | rstack => decide
  | error => decide
  | _ => cases hl

/-- The body in progress begins with the control byte, if it did before the step. -/
theorem ControlStep.head_eq {c c' : Byte} {e e' : Encoder} (h : ControlStep c e c' e')
    (he : e.phase ≠ .done → e.body.head? = some c) (hd : e'.phase ≠ .done) : e'.body.head? = some c' := by
  cases h with
  | kept ctl enc =>
    obtain ⟨hd', hb⟩ := enc hd
    rw [hb, ctl, he hd']
  | cleared ctl enc => exact absurd enc hd
  | started i level sendable ctl enc => rw [ctl, enc hd]

/-- The control byte is the old one, 0, or one that the engine may send. -/
theorem ControlStep.ctl_cases {c c' : Byte} {e e' : Encoder} (h : ControlStep c e c' e') :
    c' = c ∨ c' = 0#8 ∨
      ∃ i : Instr, i.level = .control ∧ i.engineMaySend = true ∧ c' = encode i ∧ c' ≠ 0xC0#8 := by
  cases h with
  | kept ctl _ => exact .inl ctl
  | cleared ctl _ => exact .inr (.inl ctl)
  | started i level sendable ctl _ =>
    exact .inr (.inr ⟨i, level, sendable, ctl, ctl ▸ encode_ne_rst_of_engineMaySend level sendable⟩)

/-! ### The transmit sequencer (42_arq_transmit.md) -/

/-- `encNext` starts no frame: a phase other than DONE was there before the call. -/
theorem encNext_phase {p : RawParams} {e e' : Encoder} {b : Byte} (h : encNext p e = some (b, e'))
    (hd : e'.phase ≠ .done) : e.phase ≠ .done := by
  intro hp
  rcases he : e.esc with _ | v
  · simp [encNext, he, hp] at h
  · simp only [encNext, he, Option.some.injEq, Prod.mk.injEq] at h
    exact hd (h.2 ▸ hp)

theorem beginFrame_control {i : Instr} {field : List Byte} {next : SendState} {s t : State} {c : Byte} {e : Encoder}
    (hl : i.level = .control) (hs : i.engineMaySend = true) (h : beginFrame i field next s = .ok t) :
    ControlStep c e t.txCtl t.enc := by
  obtain ⟨-, rfl⟩ := beginFrame_ok h
  exact .started i hl hs rfl fun _ => rfl

theorem startData_control {high : Bool} {s t : State} {c : Byte} {e : Encoder} (h : startData high s = .ok t) :
    ControlStep c e t.txCtl t.enc := by
  unfold startData at h
  split at h
  · cases h
  · exact beginFrame_control rfl rfl h

/-- Whatever is selected, the frame that begins has a control byte the engine may send. -/
theorem startFrame_control {sel : Selection} {s t : State} {c : Byte} {e : Encoder} (h : startFrame sel s = .ok t) :
    ControlStep c e t.txCtl t.enc := by
  cases sel with
  | error => exact beginFrame_control rfl rfl h
  | rstack => exact beginFrame_control rfl rfl h
  | nak => exact beginFrame_control rfl rfl h
  | ack => exact beginFrame_control rfl rfl h
  | retx =>
    simp only [startFrame, startRetx] at h
    split at h
    · cases h
    · exact beginFrame_control rfl rfl h
  | dataHigh => exact startData_control h
  | dataNorm => exact startData_control h

theorem completeFrame_control {s t : State} (h : completeFrame s = .ok t) :
    t.txCtl = s.txCtl ∧ t.enc.phase = s.enc.phase := by
  rcases completeFrame_cases h with ⟨-, -, rfl⟩ | ⟨-, -, rfl⟩ | ⟨-, _, _, -, rfl⟩ | ⟨-, rfl⟩ <;> exact ⟨rfl, rfl⟩

theorem completeFrame_environment {s t : State} (h : completeFrame s = .ok t) :
    t.cfg = s.cfg ∧ t.script = s.script ∧ t.wrAnswers = s.wrAnswers ∧ t.lineOut = s.lineOut := by
  rcases completeFrame_cases h with ⟨-, -, rfl⟩ | ⟨-, -, rfl⟩ | ⟨-, _, _, -, rfl⟩ | ⟨-, rfl⟩ <;>
    exact ⟨rfl, rfl, rfl, rfl⟩

theorem continueFrame_control {s t : State} {r : SendResult} (h : continueFrame s = .ok (r, t)) :
    t.txCtl = s.txCtl ∧ (t.enc.phase ≠ .done → s.enc.phase ≠ .done ∧ t.enc.body = s.enc.body) := by
  obtain ⟨-, b, e, he, ⟨hp, rfl⟩ | ⟨hp, hc⟩⟩ := continueFrame_cases h
  · exact ⟨rfl, fun hd => ⟨encNext_phase he hd, encNext_body he⟩⟩
  · obtain ⟨hctl, hphase⟩ := completeFrame_control hc
    exact ⟨hctl, fun hd => absurd (hphase.trans hp) hd⟩

theorem continueFrame_environment {s t : State} {r : SendResult} (h : continueFrame s = .ok (r, t)) :
    t.cfg = s.cfg ∧ t.script = s.script ∧ t.wrAnswers = s.wrAnswers ∧ ∃ b, t.lineOut = s.lineOut ++ [b] := by
  obtain ⟨-, b, e, -, ⟨-, rfl⟩ | ⟨-, hc⟩⟩ := continueFrame_cases h
  · exact ⟨rfl, rfl, rfl, b, rfl⟩
  · obtain ⟨hcfg, hscript, hwr, hout⟩ := completeFrame_environment hc
    exact ⟨hcfg, hscript, hwr, b, hout⟩

theorem sendStep_control {s t : State} {r : SendResult} (h : sendStep s = .ok (r, t)) :
    ControlStep s.txCtl s.enc t.txCtl t.enc := by
  rcases sendStep_cases h with ⟨-, -, rfl⟩ | ⟨-, -, -, -, rfl⟩ | ⟨-, -, sel, u, -, hu, hc⟩ | ⟨-, -, hc⟩
  · exact .refl _ _
  · obtain ⟨rx, fr, hk⟩ := housekeeping_form s
    rw [hk]
    exact .refl _ _
  · obtain ⟨hctl, henc⟩ := continueFrame_control hc
    exact hctl ▸ (startFrame_control hu).trans_kept henc
  · obtain ⟨hctl, henc⟩ := continueFrame_control hc
    exact .kept hctl henc

/-- One call of `sendStep` writes at most one byte (42_arq_transmit.md R230) and asks the driver nothing. -/
theorem sendStep_environment {s t : State} {r : SendResult} (h : sendStep s = .ok (r, t)) :
    t.cfg = s.cfg ∧ t.script = s.script ∧ t.wrAnswers = s.wrAnswers ∧
      ∃ out, t.lineOut = s.lineOut ++ out ∧ out.length ≤ 1 := by
  obtain ⟨rx, fr, hk⟩ := housekeeping_form s
  rcases sendStep_cases h with ⟨-, -, rfl⟩ | ⟨-, -, -, -, rfl⟩ | ⟨-, -, sel, u, -, hu, hc⟩ | ⟨-, -, hc⟩
  · exact ⟨rfl, rfl, rfl, _, rfl, le_rfl⟩
  · rw [hk]
    exact ⟨rfl, rfl, rfl, [], (List.append_nil _).symm, Nat.zero_le _⟩
  · obtain ⟨-, i, field, next, er, rt, nk, ak, atx, hi, -, -, -, rfl⟩ := startFrame_cases (hk ▸ hu)
    obtain ⟨hcfg, hscript, hwr, b, hout⟩ := continueFrame_environment hc
    exact ⟨hcfg, hscript, hwr, [b], hout, le_rfl⟩
  · obtain ⟨hcfg, hscript, hwr, b, hout⟩ := continueFrame_environment hc
    exact ⟨hcfg, hscript, hwr, [b], hout, le_rfl⟩

/-! ### The parts of an operation that write nothing to the line -/

/-- From `s` to `t` parameters, script and outgoing stream stay, and the control byte and the encoder make one of their
steps. -/
structure KeepsLine (s t : State) : Prop where
  cfg : t.cfg = s.cfg
  script : t.script = s.script
  lineOut : t.lineOut = s.lineOut
  control : ControlStep s.txCtl s.enc t.txCtl t.enc

/-- An update of other fields. -/
theorem KeepsLine.of_eq {s t : State} (hcfg : t.cfg = s.cfg) (hscript : t.script = s.script)
    (hout : t.lineOut = s.lineOut) (hctl : t.txCtl = s.txCtl) (henc : t.enc = s.enc) : KeepsLine s t :=
  ⟨hcfg, hscript, hout, by rw [hctl, henc]; exact .refl _ _⟩

/-- An update that contains `initLink`. -/
theorem KeepsLine.of_cleared {s t : State} (hcfg : t.cfg = s.cfg) (hscript : t.script = s.script)
    (hout : t.lineOut = s.lineOut) (hctl : t.txCtl = 0#8) (henc : t.enc.phase = .done) : KeepsLine s t :=
  ⟨hcfg, hscript, hout, .cleared hctl henc⟩

theorem notConnected_keepsLine (cls : FrameClass) (s : State) : KeepsLine s (notConnected cls s) := by
  obtain ⟨st, e, pe, -, h⟩ := notConnected_form cls s
  rw [h]
  exact .of_eq rfl rfl rfl rfl rfl

theorem rejectedFrame_keepsLine (st : Status) (s : State) : KeepsLine s (finishReceive st none (reject s)) := by
  rw [reject_form]
  exact .of_eq rfl rfl rfl rfl rfl

theorem invalidFrame_keepsLine (s : State) : KeepsLine s (invalidFrame s) := by
  rcases invalidFrame_cases s with ⟨-, h⟩ | ⟨-, h⟩ <;> rw [h]
  · exact notConnected_keepsLine _ _
  · exact rejectedFrame_keepsLine _ _

theorem dataReceived_keepsLine (f : SeqNum) (r : Bool) (s : State) : KeepsLine s (dataReceived f r s) := by
  rcases dataReceived_cases f r s with ⟨-, -, h⟩ | ⟨st, rj, nk, ak, -, -, h⟩ <;> rw [h] <;>
    exact .of_eq rfl rfl rfl rfl rfl

theorem nakReceived_keepsLine (n : Bool) (s : State) : KeepsLine s (nakReceived n s) := by
  obtain ⟨nr, rx, fr, h⟩ := nakReceived_form n s
  rw [h]
  exact .of_eq rfl rfl rfl rfl rfl

theorem dataByte_keepsLine (b : Byte) (s : State) : KeepsLine s (dataByte b s) := by
  obtain ⟨d, buf, h⟩ := dataByte_form b s
  rw [h]
  exact .of_eq rfl rfl rfl rfl rfl

/-- A frame received writes nothing; RST and ERROR go through `initLink`. -/
theorem exec_control_keepsLine {i : Instr} {s t : State} (hl : i.level = .control) (h : exec i s = .next t) :
    KeepsLine s t := by
  rcases exec_control_cases hl h with ⟨-, -, rfl⟩ | ⟨-, -, -, rfl⟩ | ⟨-, cls, rfl⟩ | ⟨-, st, -, rfl⟩ |
    ⟨-, a, u, hu, -, hact⟩
  · exact .of_cleared rfl rfl rfl rfl rfl
  · exact .of_cleared rfl rfl rfl rfl rfl
  · exact notConnected_keepsLine _ _
  · exact rejectedFrame_keepsLine _ _
  · have key : KeepsLine u t := by
      rcases hact with ⟨f, r, -, rfl⟩ | ⟨p, n, -, rfl⟩ | ⟨p, n, -, rfl⟩
      · exact dataReceived_keepsLine _ _ _
      · exact .of_eq rfl rfl rfl rfl rfl
      · exact nakReceived_keepsLine _ _
    -- `handleAck` writes none of the fields in question
    rcases hu with ⟨rfl, -⟩ | ⟨rfl, -⟩
    · exact key
    · exact ⟨key.cfg, key.script, key.lineOut, key.control⟩

theorem exec_line_keepsLine {i : Instr} {s t : State} (hl : i.level = .line) (h : exec i s = .next t) :
    KeepsLine s t := by
  rcases exec_line_cases hl h with ⟨d, x, rfl, -⟩ | ⟨st, -, rfl⟩ | ⟨-, -, -, -, -, rfl⟩ | ⟨-, -, rfl⟩
  · exact .of_eq rfl rfl rfl rfl rfl
  · obtain ⟨r, n, hc⟩ := codecError_form st { s with dec := decClear s.dec }
    rw [hc]
    exact .of_eq rfl rfl rfl rfl rfl
  · exact .of_eq rfl rfl rfl rfl rfl
  · exact dataByte_keepsLine _ _

/-- `sendExec` begins: polling the timers can take the link down, but writes nothing (46_operations.md R353). -/
theorem beginSendExec_keepsLine (s : State) : KeepsLine s (beginSendExec s) := by
  unfold beginSendExec
  rcases pollTimers_cases s with ⟨nr, ap, n, rx, fr, ta, h⟩ | ⟨-, -, -, nr, ap, h⟩ <;> rw [h]
  · exact .of_eq rfl rfl rfl rfl rfl
  · exact .of_cleared rfl rfl rfl rfl rfl

theorem runEvent_keepsLine (e : Event) (s : State) : KeepsLine s (runEvent e s) := by
  cases e with
  | send payload high =>
    obtain ⟨st, qh, qn, h⟩ := send_form payload high s
    simp only [runEvent, h]
    exact .of_eq rfl rfl rfl rfl rfl
  | sendExec => exact beginSendExec_keepsLine s
  | rxRelease =>
    obtain ⟨buf, n, h⟩ := rxRelease_form s
    simp only [runEvent, h]
    exact .of_eq rfl rfl rfl rfl rfl
  | hwReset => exact .of_cleared rfl rfl rfl rfl rfl
  | receive => exact .of_eq rfl rfl rfl rfl rfl
  | isTxSpaceAvailable => exact .of_eq rfl rfl rfl rfl rfl
  | isConnected => exact .of_eq rfl rfl rfl rfl rfl
  | tick d => exact .of_eq rfl rfl rfl rfl rfl
  | bytesArrive bytes => exact .of_eq rfl rfl rfl rfl rfl
  | writeAnswers answers => exact .of_eq rfl rfl rfl rfl rfl
  | setResetReason r => exact .of_eq rfl rfl rfl rfl rfl

/-- A step either keeps the line, taking at most an event from the script between operations, or is one call of
`sendStep` after a true answer (46_operations.md R353), after which `sendExec` may return. -/
theorem step_keepsLine_or_sendStep {s t : State} (h : step s = .next t) :
    (∃ events, (s.activity ≠ .idle → events = s.script) ∧ KeepsLine { s with script := events } t) ∨
    (∃ fatal answers r u, s.activity = .sending fatal ∧ s.wrAnswers = true :: answers ∧
      sendStep { s with wrAnswers := answers } = .ok (r, u) ∧ (t = u ∨ ∃ ret, t = finish ret u)) := by
  rcases step_cases h with ⟨-, -, rfl⟩ | ⟨ha, e, rest, -, rfl⟩ | ⟨-, -, rfl⟩ | ⟨-, b, rest, -, -, rfl⟩ |
    ⟨-, b, rest, i, -, hd, hx⟩ | ⟨-, c, rest, -, -, rfl⟩ | ⟨-, c, rest, i, -, hd, hx⟩ |
    ⟨fatal, ha, answers, hw, hs⟩ | ⟨fatal, ha, answers, u, hw, hs, rfl⟩ | ⟨fatal, -, answers, -, rfl⟩
  · exact .inl ⟨_, fun _ => rfl, .of_eq rfl rfl rfl rfl rfl⟩
  · exact .inl ⟨rest, fun hn => absurd ha hn, runEvent_keepsLine _ _⟩
  · exact .inl ⟨_, fun _ => rfl, .of_eq rfl rfl rfl rfl rfl⟩
  · have hk := dataByte_keepsLine b { s with lineIn := rest }
    exact .inl ⟨_, fun _ => rfl, hk.cfg, hk.script, hk.lineOut, hk.control⟩
  · have hk := exec_line_keepsLine (decodeLine_level hd) hx
    exact .inl ⟨_, fun _ => rfl, hk.cfg, hk.script, hk.lineOut, hk.control⟩
  · exact .inl ⟨_, fun _ => rfl, invalidFrame_keepsLine s⟩
  · exact .inl ⟨_, fun _ => rfl, exec_control_keepsLine (decodeControl_level hd) hx⟩
  · exact .inr ⟨fatal, answers, _, t, ha, hw, hs, .inl rfl⟩
  · exact .inr ⟨fatal, answers, _, u, ha, hw, hs, .inr ⟨_, rfl⟩⟩
  · exact .inl ⟨_, fun _ => rfl, .of_eq rfl rfl rfl rfl rfl⟩

theorem step_control {s t : State} (h : step s = .next t) : ControlStep s.txCtl s.enc t.txCtl t.enc := by
  rcases step_keepsLine_or_sendStep h with ⟨events, -, hk⟩ | ⟨fatal, answers, r, u, -, -, hs, ht⟩
  · exact hk.control
  · have hc := sendStep_control hs
    rcases ht with rfl | ⟨ret, rfl⟩ <;> exact hc

/-! ### The statements -/

/-- Settles O38: by what a step can do to the control byte and the encoder. -/
theorem controlBytesSent : Obligations.ControlBytesSent := fun _ _ h =>
  ⟨(step_control h).ctl_cases, (step_control h).head_eq⟩

/-- Settles O59: a step outside `sendStep` keeps the line, and a call of `sendStep` has used up a true answer. -/
theorem stepsKeepParametersAndScript : Obligations.StepsKeepParametersAndScript := by
  intro s t h
  rcases step_keepsLine_or_sendStep h with ⟨events, he, hk⟩ | ⟨fatal, answers, r, u, ha, hw, hs, ht⟩
  · exact ⟨hk.cfg, fun hn => hk.script.trans (he hn), [], by simpa using hk.lineOut, by simp, by simp⟩
  · obtain ⟨hcfg, hscript, hwr, out, hout, hlen⟩ := sendStep_environment hs
    rcases ht with rfl | ⟨ret, rfl⟩ <;>
      exact ⟨hcfg, fun _ => hscript, out, hout, hlen, fun _ => ⟨fatal, answers, ha, hw, hwr⟩⟩

/-- Settles O1: the word operations on three bits are arithmetic modulo 8. -/
theorem modulo8Primitives : Obligations.Modulo8Primitives := fun x a b lo hi =>
  ⟨inc8_toNat x, dist8_eq_emod a b, within8_iff lo x hi⟩

end Sys2Proof.Laws
end

section
/-! SUPPORT. What no instruction changes, and that no step reads what the spec leaves unspecified: the statements of the
family 10_state.md, O27 and O55. -/

namespace Sys2Proof.Laws

open Sys2Proof.Machine Sys2Proof.Safety

/-! ### The frame of the instructions (10_state.md R28, 20_memory.md R82) -/

/-- Parameters, streams, the driver's answers, the reset reason, the script and the free-value counter stay. -/
def KeepsEnvironment (s t : State) : Prop :=
  t.cfg = s.cfg ∧ t.lineIn = s.lineIn ∧ t.lineOut = s.lineOut ∧ t.wrAnswers = s.wrAnswers ∧
    t.resetReasonIn = s.resetReasonIn ∧ t.script = s.script ∧ t.freeDraws = s.freeDraws

/-- Decoder, receive buffer and `peerXoff` stay. -/
def KeepsReceiver (s t : State) : Prop := t.dec = s.dec ∧ t.rxBuf = s.rxBuf ∧ t.peerXoff = s.peerXoff

/-- The transmit side stays, but for what acknowledgements change. -/
def KeepsTransmitter (s t : State) : Prop :=
  t.sendState = s.sendState ∧ t.enc = s.enc ∧ t.txHigh = s.txHigh ∧ t.txNorm = s.txNorm ∧ t.frmTx = s.frmTx ∧
    t.ackTx = s.ackTx ∧ t.rstack = s.rstack ∧ t.error = s.error ∧ t.can = s.can ∧ t.errCode = s.errCode ∧
    t.peerErrCode = s.peerErrCode ∧ t.rstReason = s.rstReason ∧ t.rebootTimer = s.rebootTimer ∧
    t.txCtl = s.txCtl ∧ t.txSrcHigh = s.txSrcHigh

/-- From `s` to `t` at most the fields change that a line byte can write. -/
def LineByteWrites (s t : State) : Prop :=
  t = { s with
    rej := t.rej, nak := t.nak, peerXoff := t.peerXoff, dec := t.dec, rxBuf := t.rxBuf
    activity := t.activity, rxFrame := t.rxFrame, returns := t.returns }

theorem LineByteWrites.keepsEnvironment {s t : State} (h : LineByteWrites s t) : KeepsEnvironment s t := by
  unfold LineByteWrites at h
  rw [h]
  exact ⟨rfl, rfl, rfl, rfl, rfl, rfl, rfl⟩

theorem exec_line_writes {i : Instr} {s t : State} (hl : i.level = .line) (h : exec i s = .next t) :
    LineByteWrites s t := by
  rcases exec_line_cases hl h with ⟨d, x, rfl, -⟩ | ⟨st, -, rfl⟩ | ⟨-, -, -, -, -, rfl⟩ | ⟨-, -, rfl⟩
  · rfl
  · obtain ⟨r, n, hc⟩ := codecError_form st { s with dec := decClear s.dec }
    rw [hc]
    rfl
  · rfl
  · obtain ⟨d, buf, hb⟩ := dataByte_form 0xFF#8 s
    rw [hb]
    rfl

/-- From `s` to `t` at most the fields change that a frame with a valid ack number can write. -/
def AckedFrameWrites (s t : State) : Prop :=
  t = { s with
    rej := t.rej, retx := t.retx, nak := t.nak, ack := t.ack, ackRx := t.ackRx, frmReTx := t.frmReTx, frmRx := t.frmRx
    frmReTxHead := t.frmReTxHead, timeouts := t.timeouts, ackPeriod := t.ackPeriod, rxHeld := t.rxHeld
    ackTimer := t.ackTimer, nrTimer := t.nrTimer, reTx := t.reTx
    activity := t.activity, rxFrame := t.rxFrame, returns := t.returns }

theorem AckedFrameWrites.keeps {s t : State} (h : AckedFrameWrites s t) :
    KeepsEnvironment s t ∧ KeepsReceiver s t ∧ KeepsTransmitter s t := by
  unfold AckedFrameWrites at h
  rw [h]
  exact ⟨by simp [KeepsEnvironment], by simp [KeepsReceiver], by simp [KeepsTransmitter]⟩

theorem dataReceived_writes (f : SeqNum) (r : Bool) (s : State) : AckedFrameWrites s (dataReceived f r s) := by
  rcases dataReceived_cases f r s with ⟨-, -, h⟩ | ⟨st, rj, nk, ak, -, -, h⟩ <;> rw [h] <;> rfl

theorem nakReceived_writes (n : Bool) (s : State) : AckedFrameWrites s (nakReceived n s) := by
  obtain ⟨nr, rx, fr, h⟩ := nakReceived_form n s
  rw [h]
  rfl

/-- `handleAck` writes only what a frame with a valid ack number can write. -/
theorem AckedFrameWrites.of_handleAck {a : SeqNum} {s t : State} (h : AckedFrameWrites (handleAck a s) t) :
    AckedFrameWrites s t := h

/-- A received frame keeps environment and receiver, and the transmitter unless the link was not Connected before or is
not after. -/
theorem exec_control_keeps {i : Instr} {s t : State} (hl : i.level = .control) (h : exec i s = .next t) :
    KeepsEnvironment s t ∧ KeepsReceiver s t ∧
      (s.connected = true → t.connected = true → KeepsTransmitter s t) := by
  rcases exec_control_cases hl h with ⟨-, -, rfl⟩ | ⟨-, -, -, rfl⟩ | ⟨hc, cls, rfl⟩ | ⟨-, st, -, rfl⟩ |
    ⟨-, a, u, hu, -, hact⟩
  · exact ⟨by simp [KeepsEnvironment], by simp [KeepsReceiver], by simp⟩
  · exact ⟨by simp [KeepsEnvironment], by simp [KeepsReceiver], by simp⟩
  · obtain ⟨st, e, pe, -, hn⟩ := notConnected_form cls s
    rw [hn]
    exact ⟨by simp [KeepsEnvironment], by simp [KeepsReceiver], by simp [hc]⟩
  · have hw : AckedFrameWrites s (finishReceive st none (reject s)) := by rw [reject_form]; rfl
    obtain ⟨he, hr, ht⟩ := hw.keeps
    exact ⟨he, hr, fun _ _ => ht⟩
  · have hw : AckedFrameWrites u t := by
      rcases hact with ⟨f, r, -, rfl⟩ | ⟨p, n, -, rfl⟩ | ⟨p, n, -, rfl⟩
      · exact dataReceived_writes f r u
      · rfl
      · exact nakReceived_writes n u
    have hws : AckedFrameWrites s t := by
      rcases hu with ⟨rfl, -⟩ | ⟨rfl, -⟩
      · exact hw
      · exact hw.of_handleAck
    obtain ⟨he, hr, ht⟩ := hws.keeps
    exact ⟨he, hr, fun _ _ => ht⟩

/-- Settles O27: by what a line byte writes, and what a received frame keeps. -/
theorem instructionsLeaveAlone : Obligations.InstructionsLeaveAlone := by
  intro i s t h
  cases hl : i.level with
  | line =>
    have hw := exec_line_writes hl h
    exact ⟨hw.keepsEnvironment, fun _ => hw, nofun, nofun⟩
  | control =>
    obtain ⟨he, hr, ht⟩ := exec_control_keeps hl h
    exact ⟨he, nofun, fun _ => hr, fun _ => ht⟩

/-! ### States that differ in what is left unspecified (93_implementation_defined.md U11) -/

/-- Two encoders that differ at most in `encBody`, `encIdx` and `encCrc`, and that only with no frame in progress. -/
def sameEncoder (e e' : Encoder) : Prop :=
  e' = if e.phase = .done then { e with body := e'.body, idx := e'.idx, crc := e'.crc } else e

theorem sameEncoder.refl (e : Encoder) : sameEncoder e e := by unfold sameEncoder; split <;> rfl

theorem sameEncoder.of_done {e e' : Encoder} (hd : e.phase = .done) (hd' : e'.phase = .done) (hesc : e'.esc = e.esc) :
    sameEncoder e e' := by
  rw [sameEncoder, if_pos hd, ← hesc, hd.trans hd'.symm]

theorem sameEncoder.phase_eq {e e' : Encoder} (h : sameEncoder e e') : e'.phase = e.phase := by
  unfold sameEncoder at h
  split at h <;> rw [h]

theorem sameEncoder.esc_eq {e e' : Encoder} (h : sameEncoder e e') : e'.esc = e.esc := by
  unfold sameEncoder at h
  split at h <;> rw [h]

theorem sameEncoder.eq_of_sending {e e' : Encoder} (h : sameEncoder e e') (hs : e.phase ≠ .done) : e' = e := by
  rwa [sameEncoder, if_neg hs] at h

/-- The state with other contents of the storage that can be unspecified. -/
def refill (e : Encoder) (buf : List Byte) (n : Nat) (s : State) : State :=
  { s with enc := e, rxBuf := buf, freeDraws := n }

theorem sameSpecified_refill {s : State} {e : Encoder} {buf : List Byte} {n : Nat} (h : sameEncoder s.enc e) :
    sameSpecified s (refill e buf n s) :=
  congrArg (refill · buf n s) h

theorem sameSpecified_iff {s s' : State} :
    sameSpecified s s' ↔ ∃ e buf n, sameEncoder s.enc e ∧ s' = refill e buf n s := by
  constructor
  · intro h
    have he : sameEncoder s.enc s'.enc := congrArg State.enc h
    refine ⟨s'.enc, s'.rxBuf, s'.freeDraws, he, ?_⟩
    rw [refill, he]
    exact h
  · rintro ⟨e, buf, n, he, rfl⟩
    exact sameSpecified_refill he

/-- With both encoders DONE, all that is left to agree on is the pending byte. -/
theorem sameSpecified_of_done {s s' : State} {e : Encoder} {buf : List Byte} {n : Nat} (h : s' = refill e buf n s)
    (hd : s.enc.phase = .done) (hd' : e.phase = .done) (hesc : e.esc = s.enc.esc) : sameSpecified s s' :=
  h ▸ sameSpecified_refill (.of_done hd hd' hesc)

/-! ### Parts of a step that keep the relation

The lemmas compose: the proof for a procedure follows the branches of its definition, `ite` for each test. -/

/-- `f` neither reads nor writes the storage that can be unspecified; an update of other fields shows it by `rfl`. -/
def Ignores (f : State → State) : Prop := ∀ e buf n s, f (refill e buf n s) = refill e buf n (f s)

/-- The test `c` does not read the storage that can be unspecified. -/
def IgnoresTest (c : State → Prop) : Prop := ∀ e buf n s, c (refill e buf n s) = c s

/-- `f` takes two states that differ only in what is unspecified to two results in the relation `R`. -/
def Respects {α : Type} (R : α → α → Prop) (f : State → α) : Prop := ∀ ⦃s s'⦄, sameSpecified s s' → R (f s) (f s')

/-- Where `o` goes on, so does `o'`, to a state that differs only in what is unspecified. -/
def sameOutcome (o o' : Host.Outcome State Fault Refusal) : Prop :=
  ∀ t, o = .next t → ∃ t', o' = .next t' ∧ sameSpecified t t'

theorem sameOutcome.fault (f : Fault) (o' : Host.Outcome State Fault Refusal) : sameOutcome (.fault f) o' := by
  rintro _ ⟨⟩

/-- Two results of polling the timers that agree on whether the link has gone down. -/
def samePoll (r r' : Bool × State) : Prop := r'.1 = r.1 ∧ sameSpecified r.2 r'.2

theorem Ignores.enc_eq {f : State → State} (hf : Ignores f) (s : State) : (f s).enc = s.enc := by
  have h : f s = refill s.enc s.rxBuf s.freeDraws (f s) := hf s.enc s.rxBuf s.freeDraws s
  rw [h]
  rfl

theorem Ignores.respects {f : State → State} (hf : Ignores f) : Respects sameSpecified f := by
  intro s s' h
  obtain ⟨e, buf, n, he, rfl⟩ := sameSpecified_iff.1 h
  rw [hf]
  exact sameSpecified_refill (by rwa [hf.enc_eq])

theorem Ignores.comp {f g : State → State} (hg : Ignores g) (hf : Ignores f) : Ignores fun s => g (f s) :=
  fun e buf n s => (congrArg g (hf e buf n s)).trans (hg e buf n (f s))

theorem Ignores.ite {c : State → Prop} [DecidablePred c] {f g : State → State} (hf : Ignores f) (hg : Ignores g)
    (hc : IgnoresTest c := by exact fun _ _ _ _ => rfl) : Ignores fun s => if c s then f s else g s := by
  intro e buf n s
  simp only [hc e buf n s, hf e buf n s, hg e buf n s]
  split <;> rfl

theorem Respects.comp {α : Type} {R : α → α → Prop} {f : State → State} {g : State → α} (hg : Respects R g)
    (hf : Respects sameSpecified f) : Respects R fun s => g (f s) :=
  fun _ _ h => hg (hf h)

theorem Respects.ite {α : Type} {R : α → α → Prop} {c : State → Prop} [DecidablePred c] {f g : State → α}
    (hf : Respects R f) (hg : Respects R g) (hc : IgnoresTest c := by exact fun _ _ _ _ => rfl) :
    Respects R fun s => if c s then f s else g s := by
  intro s s' h
  obtain ⟨e, buf, n, -, rfl⟩ := sameSpecified_iff.1 h
  simp only [hc e buf n s]
  split
  · exact hf h
  · exact hg h

theorem Respects.next {f : State → State} (hf : Respects sameSpecified f) :
    Respects sameOutcome fun s => .next (f s) := by
  rintro s s' h _ ⟨⟩
  exact ⟨f s', rfl, hf h⟩

/-! ### The receive side (41_arq_receive.md) -/

theorem finish_ignores (r : Return) : Ignores (finish r) := fun _ _ _ _ => rfl

theorem finishReceive_ignores (st : Status) (p : Option Payload) : Ignores (finishReceive st p) := fun _ _ _ _ => rfl

theorem reject_ignores : Ignores reject := .ite (fun _ _ _ _ => rfl) fun _ _ _ _ => rfl

theorem rejectedFrame_ignores (st : Status) : Ignores fun s => finishReceive st none (reject s) :=
  (finishReceive_ignores st none).comp reject_ignores

theorem codecError_ignores (st : Status) : Ignores (codecError st) :=
  (finishReceive_ignores st none).comp (.ite reject_ignores fun _ _ _ _ => rfl)

theorem notConnected_ignores (cls : FrameClass) : Ignores (notConnected cls) :=
  .ite (finishReceive_ignores _ _) (.ite (fun _ _ _ _ => rfl) fun _ _ _ _ => rfl)

theorem invalidFrame_ignores : Ignores invalidFrame := .ite (rejectedFrame_ignores _) (notConnected_ignores _)

theorem ackBearingFrame_ignores {cls : FrameClass} {a : SeqNum} {act : State → State} (hact : Ignores act) :
    Ignores (ackBearingFrame cls a act) :=
  .ite (notConnected_ignores cls)
    (.ite (rejectedFrame_ignores _) (hact.comp (.ite (fun _ _ _ _ => rfl) fun _ _ _ _ => rfl)))

theorem forceAck_ignores : Ignores forceAck := fun _ _ _ _ => rfl

theorem dataReceived_ignores (f : SeqNum) (r : Bool) : Ignores (dataReceived f r) :=
  .ite
    (.ite (fun _ _ _ _ => rfl) ((finishReceive_ignores _ _).comp (.ite forceAck_ignores fun _ _ _ _ => rfl)))
    (.ite ((finishReceive_ignores _ _).comp forceAck_ignores) (rejectedFrame_ignores _))

theorem ackReceived_ignores (n : Bool) : Ignores (ackReceived n) := fun _ _ _ _ => rfl

theorem startRetransmission_ignores : Ignores startRetransmission := .ite (fun _ _ _ _ => rfl) fun _ _ _ _ => rfl

theorem nakReceived_ignores (n : Bool) : Ignores (nakReceived n) :=
  (finishReceive_ignores _ _).comp (startRetransmission_ignores.comp fun _ _ _ _ => rfl)

theorem reinitOnRst_respects : Respects sameSpecified reinitOnRst := by
  intro s s' h
  obtain ⟨e, buf, n, -, rfl⟩ := sameSpecified_iff.1 h
  exact sameSpecified_of_done (e := { e with phase := .done, esc := none }) (buf := buf) (n := n) rfl rfl rfl rfl

theorem linkDown_respects (code : Byte) (sendError : Bool) : Respects sameSpecified (linkDown code sendError) := by
  intro s s' h
  obtain ⟨e, buf, n, -, rfl⟩ := sameSpecified_iff.1 h
  exact sameSpecified_of_done (e := { e with phase := .done, esc := none }) (buf := buf) (n := n) rfl rfl rfl rfl

theorem dataByte_respects (b : Byte) : Respects sameSpecified (dataByte b) := by
  refine .ite (fun _ _ h => h) (.ite (fun s s' h => ?_) ?_)
  · -- the position written in `rxBuf` and the byte come from the decoder
    obtain ⟨e, buf, n, he, rfl⟩ := sameSpecified_iff.1 h
    exact sameSpecified_refill (n := n) he
  · exact Ignores.respects fun _ _ _ _ => rfl

/-! ### The instructions -/

theorem execData_respects (f : SeqNum) (r : Bool) (a : SeqNum) : Respects sameOutcome (execData f r a) :=
  .ite (.next (ackBearingFrame_ignores (dataReceived_ignores f r)).respects) (.next invalidFrame_ignores.respects)

theorem execAck_respects (p n : Bool) (a : SeqNum) : Respects sameOutcome (execAck p n a) :=
  .ite (.next (ackBearingFrame_ignores (ackReceived_ignores n)).respects) (.next invalidFrame_ignores.respects)

theorem execNak_respects (p n : Bool) (a : SeqNum) : Respects sameOutcome (execNak p n a) :=
  .ite (.next (ackBearingFrame_ignores (nakReceived_ignores n)).respects) (.next invalidFrame_ignores.respects)

theorem execRst_respects : Respects sameOutcome execRst :=
  .ite (.next ((finishReceive_ignores _ _).respects.comp reinitOnRst_respects)) (.next invalidFrame_ignores.respects)

theorem execError_respects : Respects sameOutcome execError := by
  refine .ite (.ite (.next fun s s' h => ?_) (.next (notConnected_ignores _).respects))
    (.next invalidFrame_ignores.respects)
  have hp : Ignores fun s => { s with peerErrCode := frameCode s.rxFrame } := fun _ _ _ _ => rfl
  have hl := linkDown_respects s.cfg.errcPeerError false (hp.respects h)
  obtain ⟨e, buf, n, -, rfl⟩ := sameSpecified_iff.1 h
  exact (finishReceive_ignores _ _).respects hl

theorem execFlag_respects : Respects sameOutcome execFlag := by
  have rejected (st : Status) : Respects sameSpecified fun s => codecError st { s with dec := decClear s.dec } :=
    (codecError_ignores st).respects.comp (Ignores.respects fun _ _ _ _ => rfl)
  exact .ite (.next (rejected _)) (.ite (.next (Ignores.respects fun _ _ _ _ => rfl)) (.ite (.next (rejected _))
    (.ite (.next (rejected _)) (.ite (.next (rejected _)) (.next (Ignores.respects fun _ _ _ _ => rfl))))))

theorem execCancel_respects : Respects sameOutcome execCancel :=
  .ite (.next ((codecError_ignores _).respects.comp (Ignores.respects fun _ _ _ _ => rfl))) (.next fun _ _ h => h)

theorem execWake_respects : Respects sameOutcome execWake := .ite (.next (dataByte_respects _)) (.next fun _ _ h => h)

theorem exec_respects (i : Instr) : Respects sameOutcome (exec i) := by
  cases i with
  | data f r a => exact execData_respects f r a
  | ack p n a => exact execAck_respects p n a
  | nak p n a => exact execNak_respects p n a
  | rst => exact execRst_respects
  | rstack => exact .next invalidFrame_ignores.respects
  | error => exact execError_respects
  | flag => exact execFlag_respects
  | escape => exact .next (Ignores.respects fun _ _ _ _ => rfl)
  | xon => exact .next (Ignores.respects fun _ _ _ _ => rfl)
  | xoff => exact .next (Ignores.respects fun _ _ _ _ => rfl)
  | substitute => exact .next (Ignores.respects fun _ _ _ _ => rfl)
  | cancel => exact execCancel_respects
  | wake => exact execWake_respects

/-! ### The operations and the other events (46_operations.md) -/

theorem send_ignores (payload : Payload) (high : Bool) : Ignores (send payload high) :=
  .ite (finish_ignores _) (.ite (finish_ignores _) (.ite (finish_ignores _)
    (.ite (fun _ _ _ _ => rfl) fun _ _ _ _ => rfl)))

theorem rxRelease_respects : Respects sameSpecified rxRelease := by
  refine .ite (fun s s' h => ?_) fun _ _ h => h
  obtain ⟨e, buf, n, he, rfl⟩ := sameSpecified_iff.1 h
  exact sameSpecified_refill he

theorem hwReset_respects : Respects sameSpecified hwReset := by
  intro s s' h
  obtain ⟨e, buf, n, -, rfl⟩ := sameSpecified_iff.1 h
  exact sameSpecified_of_done (e := Encoder.scrambled n { e with phase := .done, esc := none }) rfl rfl rfl rfl

theorem pollNr_ignores : Ignores pollNr := .ite (fun _ _ _ _ => rfl) fun _ _ _ _ => rfl

theorem Ignores.respects_poll {f : State → State} (hf : Ignores f) (b : Bool) : Respects samePoll fun s => (b, f s) :=
  fun _ _ h => ⟨rfl, hf.respects h⟩

theorem pollAck_respects : Respects samePoll pollAck := by
  refine .ite (.ite (.ite (fun s s' h => ⟨rfl, ?_⟩) ?_) ?_) ?_
  · -- the timeout budget is exceeded: the link goes down
    have hp : Ignores fun s => { s with
        ackPeriod := backoffPeriod s.cfg.toRawParams s.ackPeriod, timeouts := s.timeouts + 1#8 } := fun _ _ _ _ => rfl
    have hl := linkDown_respects s.cfg.errcTimeouts true (hp.respects h)
    obtain ⟨e, buf, n, -, rfl⟩ := sameSpecified_iff.1 h
    exact hl
  · have stopped : Ignores fun s => { s with ackTimer := s.ackTimer.stop } := fun _ _ _ _ => rfl
    exact (stopped.comp (startRetransmission_ignores.comp fun _ _ _ _ => rfl)).respects_poll false
  · exact Ignores.respects_poll (fun _ _ _ _ => rfl) false
  · exact Ignores.respects_poll (fun _ _ _ _ => rfl) false

theorem beginSendExec_respects : Respects sameSpecified beginSendExec := by
  intro s s' h
  obtain ⟨hb, hs⟩ := pollAck_respects (pollNr_ignores.respects h)
  have hact : Ignores fun t => { t with activity := .sending (pollTimers s).1 } := fun _ _ _ _ => rfl
  have heq : beginSendExec s' = { (pollTimers s').2 with activity := .sending (pollTimers s).1 } :=
    congrArg (fun b => { (pollTimers s').2 with activity := Activity.sending b }) hb
  rw [heq]
  exact hact.respects hs

theorem runEvent_respects (e : Event) : Respects sameSpecified (runEvent e) := by
  cases e with
  | send payload high => exact (send_ignores payload high).respects
  | sendExec => exact beginSendExec_respects
  | rxRelease => exact (finish_ignores _).respects.comp rxRelease_respects
  | hwReset => exact hwReset_respects
  | receive => exact Ignores.respects fun _ _ _ _ => rfl
  | isTxSpaceAvailable => exact Ignores.respects fun _ _ _ _ => rfl
  | isConnected => exact Ignores.respects fun _ _ _ _ => rfl
  | tick d => exact Ignores.respects fun _ _ _ _ => rfl
  | bytesArrive bytes => exact Ignores.respects fun _ _ _ _ => rfl
  | writeAnswers answers => exact Ignores.respects fun _ _ _ _ => rfl
  | setResetReason r => exact Ignores.respects fun _ _ _ _ => rfl

theorem nextEvent_respects : Respects sameSpecified nextEvent := by
  intro s s' h
  obtain ⟨e, buf, n, he, rfl⟩ := sameSpecified_iff.1 h
  have hscript : (refill e buf n s).script = s.script := rfl
  unfold nextEvent
  rw [hscript]
  split
  · exact h
  · exact runEvent_respects _ (sameSpecified_refill he)

/-! ### The transmit sequencer (42_arq_transmit.md) -/

theorem housekeeping_ignores : Ignores housekeeping := .ite (fun _ _ _ _ => rfl) fun _ _ _ _ => rfl

/-- A frame begins with every encoder register written, whatever they held (40_codec.md R145). -/
theorem beginFrame_refill {i : Instr} {field : List Byte} {next : SendState} {s t : State} {e : Encoder}
    {buf : List Byte} {n : Nat} (h : beginFrame i field next s = .ok t) (he : e.phase = s.enc.phase) :
    beginFrame i field next (refill e buf n s) = .ok (refill t.enc buf n t) := by
  obtain ⟨hd, rfl⟩ := beginFrame_ok h
  exact if_pos (he.trans hd)

theorem startData_refill {high : Bool} {s t : State} {e : Encoder} {buf : List Byte} {n : Nat}
    (h : startData high s = .ok t) (he : e.phase = s.enc.phase) :
    startData high (refill e buf n s) = .ok (refill t.enc buf n t) := by
  have hq : txQueue high (refill e buf n s) = txQueue high s := rfl
  unfold startData at h ⊢
  rw [hq]
  split at h
  · cases h
  · exact beginFrame_refill h he

theorem startRetx_refill {s t : State} {e : Encoder} {buf : List Byte} {n : Nat}
    (h : startRetx s = .ok t) (he : e.phase = s.enc.phase) :
    startRetx (refill e buf n s) = .ok (refill t.enc buf n t) := by
  have hq : nth (refill e buf n s).reTx (dist8 (refill e buf n s).frmReTxHead (refill e buf n s).frmReTx) =
    nth s.reTx (dist8 s.frmReTxHead s.frmReTx) := rfl
  unfold startRetx at h ⊢
  rw [hq]
  split at h
  · cases h
  · exact beginFrame_refill h he

theorem startFrame_refill {sel : Selection} {s t : State} {e : Encoder} {buf : List Byte} {n : Nat}
    (h : startFrame sel s = .ok t) (he : e.phase = s.enc.phase) :
    startFrame sel (refill e buf n s) = .ok (refill t.enc buf n t) := by
  cases sel with
  | error => exact beginFrame_refill h he
  | rstack => exact beginFrame_refill h he
  | nak => exact beginFrame_refill h he
  | ack => exact beginFrame_refill h he
  | retx => exact startRetx_refill h he
  | dataHigh => exact startData_refill h he
  | dataNorm => exact startData_refill h he

/-- The end of a frame draws new values for the encoder registers (42_arq_transmit.md R249, U11). -/
theorem endFrame_sameSpecified {s s' : State} (h : sameSpecified s s') (hd : s.enc.phase = .done) :
    sameSpecified (endFrame s) (endFrame s') := by
  obtain ⟨e, buf, n, he, rfl⟩ := sameSpecified_iff.1 h
  exact sameSpecified_of_done (e := Encoder.scrambled n e) (n := n + 1) rfl hd (he.phase_eq.trans hd) he.esc_eq

theorem completeFrame_sameSpecified {s s' t : State} (h : sameSpecified s s') (hd : s.enc.phase = .done)
    (hc : completeFrame s = .ok t) : ∃ t', completeFrame s' = .ok t' ∧ sameSpecified t t' := by
  obtain ⟨e, buf, n, he, rfl⟩ := sameSpecified_iff.1 h
  have ended {u : State} (hu : u.enc = s.enc) : sameSpecified (endFrame u) (endFrame (refill e buf n u)) :=
    endFrame_sameSpecified (sameSpecified_refill (hu ▸ he)) (hu ▸ hd)
  rcases completeFrame_cases hc with ⟨hs, hctl, rfl⟩ | ⟨hs, hctl, rfl⟩ | ⟨hs, p, rest, hq, rfl⟩ | ⟨hs, rfl⟩
  · exact ⟨_, by simp only [completeFrame, completeShort, refill, hs, hctl, if_true], ended rfl⟩
  · exact ⟨_, by simp only [completeFrame, completeShort, refill, hs, hctl, if_false], ended rfl⟩
  · have hq' : txQueue (refill e buf n s).txSrcHigh (refill e buf n s) = p :: rest := hq
    have hs' : (refill e buf n s).sendState = .sendingDataFrame := hs
    exact ⟨_, by simp only [completeFrame, completeData, hs', hq']; rfl, ended rfl⟩
  · exact ⟨_, by simp only [completeFrame, completeRetx, refill, hs], ended rfl⟩

theorem continueFrame_of_next {s : State} {b : Byte} {e : Encoder} (he : encNext s.cfg.toRawParams s.enc = some (b, e))
    (hp : e.phase ≠ .done) : continueFrame s = .ok (.sent, { writeByte b s with enc := e }) := by
  simp [continueFrame, he, encDone, hp]

theorem continueFrame_of_last {s t : State} {b : Byte} {e : Encoder}
    (he : encNext s.cfg.toRawParams s.enc = some (b, e)) (hp : e.phase = .done)
    (hc : completeFrame { writeByte b s with enc := e } = .ok t) : continueFrame s = .ok (.sent, t) := by
  unfold continueFrame
  rw [he]
  dsimp only
  rw [if_pos (by simp [encDone, hp]), hc]
  rfl

/-- The next byte of the frame in progress is the same from the same encoder registers. -/
theorem continueFrame_sameSpecified {s t : State} {r : SendResult} {buf : List Byte} {n : Nat}
    (h : continueFrame s = .ok (r, t)) :
    ∃ t', continueFrame (refill s.enc buf n s) = .ok (r, t') ∧ sameSpecified t t' := by
  obtain ⟨rfl, b, e, he, ⟨hp, rfl⟩ | ⟨hp, hc⟩⟩ := continueFrame_cases h
  · exact ⟨_, continueFrame_of_next (s := refill s.enc buf n s) he hp, sameSpecified_refill (.refl e)⟩
  · obtain ⟨t', hc', ht⟩ := completeFrame_sameSpecified
      (sameSpecified_refill (s := { writeByte b s with enc := e }) (buf := buf) (n := n) (.refl e)) hp hc
    exact ⟨t', continueFrame_of_last (s := refill s.enc buf n s) he hp hc', ht⟩

/-- One call of `sendStep`: an idle sequencer begins its frame with fresh encoder registers, and with a frame in
progress nothing in the encoder is unspecified (10_state.md R24). -/
theorem sendStep_sameSpecified {s s' t : State} {r : SendResult} (h : sameSpecified s s')
    (hidle : s.sendState = .idle ↔ s.enc.phase = .done) (ht : sendStep s = .ok (r, t)) :
    ∃ t', sendStep s' = .ok (r, t') ∧ sameSpecified t t' := by
  obtain ⟨e, buf, n, he, rfl⟩ := sameSpecified_iff.1 h
  have hk := housekeeping_ignores e buf n s
  have hsel : selectNext (refill e buf n (housekeeping s)) = selectNext (housekeeping s) := rfl
  rcases sendStep_cases ht with ⟨hcan, rfl, rfl⟩ | ⟨hcan, hs, hn, rfl, rfl⟩ | ⟨hcan, hs, sel, u, hn, hu, hc⟩ |
    ⟨hcan, hs, hc⟩
  all_goals
    have hcan' : (refill e buf n s).can = _ := hcan
    unfold sendStep
    simp only [hcan', if_true, if_false, Bool.false_eq_true]
  · exact ⟨_, rfl, Ignores.respects (f := cancelStep) (fun _ _ _ _ => rfl) h⟩
  · have hs' : (refill e buf n s).sendState = .idle := hs
    rw [if_pos hs', hk, hsel, hn]
    exact ⟨_, rfl, hk ▸ housekeeping_ignores.respects h⟩
  · have hs' : (refill e buf n s).sendState = .idle := hs
    have hphase : e.phase = (housekeeping s).enc.phase := by rw [housekeeping_ignores.enc_eq, he.phase_eq]
    rw [if_pos hs', hk, hsel, hn]
    simp only [startFrame_refill hu hphase]
    exact continueFrame_sameSpecified hc
  · have hs' : (refill e buf n s).sendState ≠ .idle := hs
    have henc : e = s.enc := he.eq_of_sending fun hd => hs (hidle.2 hd)
    rw [if_neg hs', henc]
    exact continueFrame_sameSpecified hc

theorem sendExecPass_sameOutcome {fatal : Bool} {s s' : State} (h : sameSpecified s s')
    (hidle : s.sendState = .idle ↔ s.enc.phase = .done) :
    sameOutcome (sendExecPass fatal s) (sendExecPass fatal s') := by
  obtain ⟨e, buf, n, he, rfl⟩ := sameSpecified_iff.1 h
  have hwr : (refill e buf n s).wrAnswers = s.wrAnswers := rfl
  unfold sendExecPass
  rw [hwr]
  rcases s.wrAnswers with _ | ⟨_ | _, answers⟩
  · have closed : Ignores fun u => finish (.sendExec (noRoomStatus fatal u)) u := fun _ _ _ _ => rfl
    exact Respects.next closed.respects h
  · have closed : Ignores fun u => finish (.sendExec (noRoomStatus fatal u)) { u with wrAnswers := answers } :=
      fun _ _ _ _ => rfl
    exact Respects.next closed.respects h
  · have ha : sameSpecified { s with wrAnswers := answers } { refill e buf n s with wrAnswers := answers } :=
      sameSpecified_refill he
    dsimp only
    rcases hs : sendStep { s with wrAnswers := answers } with f | ⟨r, u⟩
    · exact .fault f _
    · obtain ⟨u', hu', hu⟩ := sendStep_sameSpecified ha hidle hs
      rw [hu']
      cases r with
      | sent => exact Respects.next (fun _ _ h => h) hu
      | nothingToSend => exact Respects.next (finish_ignores _).respects hu

/-! ### The step, by the part of an operation it runs -/

theorem step_of_idle {s : State} (ha : s.activity = .idle) : step s = .next (nextEvent s) := by
  simp only [step, fetch, ha]

theorem step_of_sending {s : State} {fatal : Bool} (ha : s.activity = .sending fatal) :
    step s = sendExecPass fatal s := by
  simp only [step, fetch, ha]

theorem step_of_noByte {s : State} (ha : s.activity = .receiving) (hl : s.lineIn = []) :
    step s = .next (receiveNoByte s) := by
  simp only [step, fetch, fetchLine, ha, hl]

theorem step_of_dataByte {s : State} {b : Byte} {rest : List Byte} {x : NotAnInstr} (ha : s.activity = .receiving)
    (hl : s.lineIn = b :: rest) (hd : decodeLine b = .error x) :
    step s = .next (dataByte b { s with lineIn := rest }) := by
  simp only [step, fetch, fetchLine, ha, hl, hd]

theorem step_of_lineInstr {s : State} {b : Byte} {rest : List Byte} {i : Instr} (ha : s.activity = .receiving)
    (hl : s.lineIn = b :: rest) (hd : decodeLine b = .ok i) : step s = exec i { s with lineIn := rest } := by
  simp only [step, fetch, fetchLine, ha, hl, hd]

theorem step_of_noFrame {s : State} (ha : s.activity = .frameEnd) (hf : s.rxFrame = []) :
    step s = .fault .frameMissing := by
  simp only [step, fetch, fetchFrame, ha, hf]

theorem step_of_unassigned {s : State} {c : Byte} {rest : List Byte} {x : NotAnInstr} (ha : s.activity = .frameEnd)
    (hf : s.rxFrame = c :: rest) (hd : decodeControl c = .error x) : step s = .next (invalidFrame s) := by
  simp only [step, fetch, fetchFrame, ha, hf, hd]

theorem step_of_frameInstr {s : State} {c : Byte} {rest : List Byte} {i : Instr} (ha : s.activity = .frameEnd)
    (hf : s.rxFrame = c :: rest) (hd : decodeControl c = .ok i) : step s = exec i s := by
  simp only [step, fetch, fetchFrame, ha, hf, hd]

theorem step_receiving_sameOutcome {s s' : State} (h : sameSpecified s s') (ha : s.activity = .receiving) :
    sameOutcome (step s) (step s') := by
  obtain ⟨e, buf, n, he, rfl⟩ := sameSpecified_iff.1 h
  cases hl : s.lineIn with
  | nil =>
    rw [step_of_noByte ha hl, step_of_noByte (s := refill e buf n s) ha hl]
    exact Respects.next (Ignores.respects fun _ _ _ _ => rfl) h
  | cons b rest =>
    have hrest : sameSpecified { s with lineIn := rest } { refill e buf n s with lineIn := rest } :=
      sameSpecified_refill he
    rcases hd : decodeLine b with x | i
    · rw [step_of_dataByte ha hl hd, step_of_dataByte (s := refill e buf n s) ha hl hd]
      exact Respects.next (dataByte_respects b) hrest
    · rw [step_of_lineInstr ha hl hd, step_of_lineInstr (s := refill e buf n s) ha hl hd]
      exact exec_respects i hrest

theorem step_frameEnd_sameOutcome {s s' : State} (h : sameSpecified s s') (ha : s.activity = .frameEnd) :
    sameOutcome (step s) (step s') := by
  obtain ⟨e, buf, n, -, rfl⟩ := sameSpecified_iff.1 h
  cases hf : s.rxFrame with
  | nil =>
    rw [step_of_noFrame ha hf]
    exact .fault _ _
  | cons c rest =>
    rcases hd : decodeControl c with x | i
    · rw [step_of_unassigned ha hf hd, step_of_unassigned (s := refill e buf n s) ha hf hd]
      exact Respects.next invalidFrame_ignores.respects h
    · rw [step_of_frameInstr ha hf hd, step_of_frameInstr (s := refill e buf n s) ha hf hd]
      exact exec_respects i h

/-- Settles O55: each part of a step respects the relation; of the invariant only 10_state.md R24 is needed, that the
encoder is idle exactly when the sequencer is. -/
theorem unspecifiedStorageIsNeverRead : Obligations.UnspecifiedStorageIsNeverRead := by
  intro s s' t hinv h
  have ha' : s'.activity = s.activity := by
    obtain ⟨e, buf, n, -, rfl⟩ := sameSpecified_iff.1 h
    rfl
  suffices sameOutcome (step s) (step s') from this t
  cases ha : s.activity with
  | idle =>
    rw [step_of_idle ha, step_of_idle (ha'.trans ha)]
    exact Respects.next nextEvent_respects h
  | receiving => exact step_receiving_sameOutcome h ha
  | frameEnd => exact step_frameEnd_sameOutcome h ha
  | sending fatal =>
    rw [step_of_sending ha, step_of_sending (ha'.trans ha)]
    exact sendExecPass_sameOutcome h hinv.encoder.idle_iff_done

end Sys2Proof.Laws
end

section
/-! SUPPORT. The frame in progress under a received frame or line byte, and the receive buffer under a step: the
statements of the family 20_memory.md, O58 and O54. -/

namespace Sys2Proof.Laws

open Sys2Proof.Machine Sys2Proof.Safety

/-! ### The frame in progress (20_memory.md R88, 45_connection.md R327) -/

/-- The registers of the frame in progress stay, and so does the debt of a CANCEL byte. -/
def KeepsFrame (s t : State) : Prop :=
  t.enc = s.enc ∧ t.sendState = s.sendState ∧ t.txCtl = s.txCtl ∧ t.txSrcHigh = s.txSrcHigh ∧ t.can = s.can

/-- The link is down and no frame is in progress; if one was part-sent, a CANCEL byte is owed. -/
def AbandonsFrame (s t : State) : Prop :=
  t.connected = false ∧ t.enc.phase = .done ∧ t.enc.esc = none ∧ t.sendState = .idle ∧
    (s.sendState ≠ .idle → t.can = true)

theorem canAfterAbandon_of_sending {s : State} (h : s.sendState ≠ .idle) : canAfterAbandon s = true := by
  simp [canAfterAbandon, h]

theorem reinitOnRst_abandonsFrame (s : State) : AbandonsFrame s (reinitOnRst s) :=
  ⟨rfl, rfl, rfl, rfl, canAfterAbandon_of_sending⟩

theorem linkDown_abandonsFrame (code : Byte) (sendError : Bool) (s : State) :
    AbandonsFrame s (linkDown code sendError s) :=
  ⟨rfl, rfl, rfl, rfl, canAfterAbandon_of_sending⟩

theorem LineByteWrites.keepsFrame {s t : State} (h : LineByteWrites s t) : KeepsFrame s t := by
  unfold LineByteWrites at h
  rw [h]
  exact ⟨rfl, rfl, rfl, rfl, rfl⟩

theorem AckedFrameWrites.keepsFrame {s t : State} (h : AckedFrameWrites s t) : KeepsFrame s t := by
  unfold AckedFrameWrites at h
  rw [h]
  exact ⟨rfl, rfl, rfl, rfl, rfl⟩

/-- Of the received frames only RST and the fatal ERROR touch the frame in progress, and they abandon it. -/
theorem exec_control_keepsFrame {i : Instr} {s t : State} (hl : i.level = .control) (h : exec i s = .next t) :
    KeepsFrame s t ∨ ((i = .rst ∨ i = .error) ∧ AbandonsFrame s t) := by
  rcases exec_control_cases hl h with ⟨hi, -, rfl⟩ | ⟨hi, -, -, rfl⟩ | ⟨-, cls, rfl⟩ | ⟨-, st, -, rfl⟩ |
    ⟨-, a, u, hu, -, hact⟩
  · exact .inr ⟨.inl hi, reinitOnRst_abandonsFrame s⟩
  · exact .inr ⟨.inr hi, linkDown_abandonsFrame s.cfg.errcPeerError false
      { s with peerErrCode := frameCode s.rxFrame }⟩
  · obtain ⟨st, e, pe, -, hn⟩ := notConnected_form cls s
    rw [hn]
    exact .inl ⟨rfl, rfl, rfl, rfl, rfl⟩
  · rw [reject_form]
    exact .inl ⟨rfl, rfl, rfl, rfl, rfl⟩
  · have key : KeepsFrame u t := by
      rcases hact with ⟨f, r, -, rfl⟩ | ⟨p, n, -, rfl⟩ | ⟨p, n, -, rfl⟩
      · exact (dataReceived_writes f r u).keepsFrame
      · exact ⟨rfl, rfl, rfl, rfl, rfl⟩
      · exact (nakReceived_writes n u).keepsFrame
    -- `handleAck` writes none of the registers in question
    rcases hu with ⟨rfl, -⟩ | ⟨rfl, -⟩ <;> exact .inl key

/-- Settles O58: a line byte writes none of the registers, and of the received frames only RST and ERROR do. -/
theorem frameSnapshot : Obligations.FrameSnapshot := by
  intro i s t h
  cases hl : i.level with
  | line => exact .inl (exec_line_writes hl h).keepsFrame
  | control => exact exec_control_keepsFrame hl h

/-! ### The receive buffer (20_memory.md R72, R73, 44_queues.md R306) -/

/-- The payload of the frame in `rxFrame` is accepted: it is returned, and the buffer is the caller's. -/
structure Delivers (s t : State) : Prop where
  free : s.dec.drop = false
  held : t.rxHeld = true
  buf : t.rxBuf = s.rxBuf
  returns : t.returns = s.returns ++ [.receive .ok (some (framePayload s.rxFrame))]

/-- No payload is returned, and the caller's buffer is not written. -/
structure DeliversNothing (s t : State) : Prop where
  returns : ∀ p, t.returns ≠ s.returns ++ [.receive .ok (some p)]
  buf : s.rxHeld = true → t.rxHeld = true → t.rxBuf = s.rxBuf

theorem DeliversNothing.of_noReturn {s t : State} (hret : t.returns = s.returns)
    (hbuf : s.rxHeld = true → t.rxHeld = true → t.rxBuf = s.rxBuf) : DeliversNothing s t :=
  ⟨fun p => by simp [hret], hbuf⟩

theorem DeliversNothing.of_return {s t : State} {r : Return} (hr : ∀ p, r ≠ .receive .ok (some p))
    (hret : t.returns = s.returns ++ [r]) (hbuf : s.rxHeld = true → t.rxHeld = true → t.rxBuf = s.rxBuf) :
    DeliversNothing s t :=
  ⟨fun p => by simp [hret, hr p], hbuf⟩

/-- `receive` returns without a payload. -/
theorem DeliversNothing.of_status {s t : State} {st : Status} (hret : t.returns = s.returns ++ [.receive st none])
    (hbuf : t.rxBuf = s.rxBuf) : DeliversNothing s t :=
  .of_return (by simp) hret fun _ _ => hbuf

/-- A frame that begins while the caller holds the buffer is dropped, so its bytes are not stored. -/
theorem dataByte_rxBuf_of_held {b : Byte} {s : State} (hdrop : s.dec.frame ≠ [] → s.dec.drop = true)
    (hheld : s.rxHeld = true) : (dataByte b s).rxBuf = s.rxBuf := by
  have hd : (if s.dec.frame.isEmpty then s.rxHeld else s.dec.drop) = true := by
    split
    · exact hheld
    · next hne => exact hdrop (by simpa using hne)
  simp only [dataByte, hd, storeLeaving]
  split
  · rfl
  · split <;> simp

theorem dataByte_deliversNothing (b : Byte) {s : State}
    (hdrop : s.rxHeld = true → s.dec.frame ≠ [] → s.dec.drop = true) : DeliversNothing s (dataByte b s) := by
  refine .of_noReturn ?_ fun hheld _ => dataByte_rxBuf_of_held (hdrop hheld) hheld
  obtain ⟨d, buf, h⟩ := dataByte_form b s
  rw [h]

theorem exec_line_deliversNothing {i : Instr} {s t : State} (hl : i.level = .line)
    (hdrop : s.rxHeld = true → s.dec.frame ≠ [] → s.dec.drop = true) (h : exec i s = .next t) :
    DeliversNothing s t := by
  rcases exec_line_cases hl h with ⟨d, x, rfl, -⟩ | ⟨st, -, rfl⟩ | ⟨-, -, -, -, -, rfl⟩ | ⟨-, -, rfl⟩
  · exact .of_noReturn rfl fun _ _ => rfl
  · obtain ⟨r, n, hc⟩ := codecError_form st { s with dec := decClear s.dec }
    rw [hc]
    exact .of_status rfl rfl
  · exact .of_noReturn rfl fun _ _ => rfl
  · exact dataByte_deliversNothing _ hdrop

theorem notConnected_deliversNothing (cls : FrameClass) (s : State) : DeliversNothing s (notConnected cls s) := by
  obtain ⟨st, e, pe, -, h⟩ := notConnected_form cls s
  rw [h]
  exact .of_status rfl rfl

theorem rejectedFrame_deliversNothing (st : Status) (s : State) :
    DeliversNothing s (finishReceive st none (reject s)) := by
  rw [reject_form]
  exact .of_status rfl rfl

theorem invalidFrame_deliversNothing (s : State) : DeliversNothing s (invalidFrame s) := by
  rcases invalidFrame_cases s with ⟨-, h⟩ | ⟨-, h⟩ <;> rw [h]
  · exact notConnected_deliversNothing _ _
  · exact rejectedFrame_deliversNothing _ _

theorem dataReceived_delivers_or_not (f : SeqNum) (r : Bool) (s : State) :
    Delivers s (dataReceived f r s) ∨ DeliversNothing s (dataReceived f r s) := by
  rcases dataReceived_cases f r s with ⟨-, hdrop, h⟩ | ⟨st, rj, nk, ak, -, -, h⟩ <;> rw [h]
  · exact .inl ⟨hdrop, rfl, rfl, rfl⟩
  · exact .inr (.of_status rfl rfl)

/-- A received frame delivers its own payload, and only if its bytes were stored. -/
theorem exec_control_delivers_or_not {i : Instr} {s t : State} (hl : i.level = .control) (h : exec i s = .next t) :
    Delivers s t ∨ DeliversNothing s t := by
  rcases exec_control_cases hl h with ⟨-, -, rfl⟩ | ⟨-, -, -, rfl⟩ | ⟨-, cls, rfl⟩ | ⟨-, st, -, rfl⟩ |
    ⟨-, a, u, hu, -, hact⟩
  · exact .inr (.of_status rfl rfl)
  · exact .inr (.of_status rfl rfl)
  · exact .inr (notConnected_deliversNothing _ _)
  · exact .inr (rejectedFrame_deliversNothing _ _)
  · have key : Delivers u t ∨ DeliversNothing u t := by
      rcases hact with ⟨f, r, -, rfl⟩ | ⟨p, n, -, rfl⟩ | ⟨p, n, -, rfl⟩
      · exact dataReceived_delivers_or_not f r u
      · exact .inr (.of_status rfl rfl)
      · obtain ⟨nr, rx, fr, hn⟩ := nakReceived_form n u
        rw [hn]
        exact .inr (.of_status rfl rfl)
    -- `handleAck` keeps decoder, buffer, `rxFrame` and `returns`
    rcases hu with ⟨rfl, -⟩ | ⟨rfl, -⟩
    · exact key
    · exact key.imp (fun d => ⟨d.free, d.held, d.buf, d.returns⟩) fun d => ⟨d.returns, d.buf⟩

theorem beginSendExec_deliversNothing (s : State) : DeliversNothing s (beginSendExec s) := by
  unfold beginSendExec
  rcases pollTimers_cases s with ⟨nr, ap, n, rx, fr, ta, h⟩ | ⟨-, -, -, nr, ap, h⟩ <;> rw [h] <;>
    exact .of_noReturn rfl fun _ _ => rfl

/-- Of the events only `rxRelease` and `hwReset` write the buffer, and both take it back from the caller. -/
theorem runEvent_deliversNothing (e : Event) (s : State) : DeliversNothing s (runEvent e s) := by
  cases e with
  | send payload high =>
    obtain ⟨st, qh, qn, h⟩ := send_form payload high s
    simp only [runEvent, h]
    exact .of_return (by simp) rfl fun _ _ => rfl
  | sendExec => exact beginSendExec_deliversNothing s
  | rxRelease =>
    obtain ⟨buf, n, h⟩ := rxRelease_form s
    simp only [runEvent, h]
    exact .of_return (by simp) rfl fun _ hheld => absurd hheld (by simp)
  | hwReset => exact .of_noReturn rfl fun _ hheld => absurd hheld (by simp [runEvent])
  | isTxSpaceAvailable => exact .of_return (by simp) rfl fun _ _ => rfl
  | isConnected => exact .of_return (by simp) rfl fun _ _ => rfl
  | receive => exact .of_noReturn rfl fun _ _ => rfl
  | tick d => exact .of_noReturn rfl fun _ _ => rfl
  | bytesArrive bytes => exact .of_noReturn rfl fun _ _ => rfl
  | writeAnswers answers => exact .of_noReturn rfl fun _ _ => rfl
  | setResetReason r => exact .of_noReturn rfl fun _ _ => rfl

/-! ### The transmit sequencer leaves the receive side alone -/

theorem completeFrame_receiver {s t : State} (h : completeFrame s = .ok t) :
    t.rxBuf = s.rxBuf ∧ t.returns = s.returns := by
  rcases completeFrame_cases h with ⟨-, -, rfl⟩ | ⟨-, -, rfl⟩ | ⟨-, _, _, -, rfl⟩ | ⟨-, rfl⟩ <;> exact ⟨rfl, rfl⟩

theorem continueFrame_receiver {s t : State} {r : SendResult} (h : continueFrame s = .ok (r, t)) :
    t.rxBuf = s.rxBuf ∧ t.returns = s.returns := by
  obtain ⟨-, b, e, -, ⟨-, rfl⟩ | ⟨-, hc⟩⟩ := continueFrame_cases h
  · exact ⟨rfl, rfl⟩
  · obtain ⟨hbuf, hret⟩ := completeFrame_receiver hc
    exact ⟨hbuf, hret⟩

theorem sendStep_receiver {s t : State} {r : SendResult} (h : sendStep s = .ok (r, t)) :
    t.rxBuf = s.rxBuf ∧ t.returns = s.returns := by
  obtain ⟨rx, fr, hk⟩ := housekeeping_form s
  rcases sendStep_cases h with ⟨-, -, rfl⟩ | ⟨-, -, -, -, rfl⟩ | ⟨-, -, sel, u, -, hu, hc⟩ | ⟨-, -, hc⟩
  · exact ⟨rfl, rfl⟩
  · rw [hk]
    exact ⟨rfl, rfl⟩
  · obtain ⟨-, i, field, next, er, rt, nk, ak, atx, hi, -, -, -, rfl⟩ := startFrame_cases (hk ▸ hu)
    obtain ⟨hbuf, hret⟩ := continueFrame_receiver hc
    exact ⟨hbuf, hret⟩
  · exact continueFrame_receiver hc

/-! ### The step -/

/-- A step delivers the frame that the codec has passed, or delivers nothing and leaves a held buffer alone. -/
theorem step_delivers_or_not {s t : State} (hdrop : s.rxHeld = true → s.dec.frame ≠ [] → s.dec.drop = true)
    (h : step s = .next t) : (s.activity = .frameEnd ∧ Delivers s t) ∨ DeliversNothing s t := by
  rcases step_cases h with ⟨-, -, rfl⟩ | ⟨-, e, rest, -, rfl⟩ | ⟨-, -, rfl⟩ | ⟨-, b, rest, -, -, rfl⟩ |
    ⟨-, b, rest, i, -, hd, hx⟩ | ⟨-, c, rest, -, -, rfl⟩ | ⟨ha, c, rest, i, -, hd, hx⟩ |
    ⟨fatal, -, answers, -, hs⟩ | ⟨fatal, -, answers, u, -, hs, rfl⟩ | ⟨fatal, -, answers, -, rfl⟩
  · exact .inr (.of_noReturn rfl fun _ _ => rfl)
  · have hk := runEvent_deliversNothing e { s with script := rest }
    exact .inr ⟨hk.returns, hk.buf⟩
  · exact .inr (.of_status rfl rfl)
  · have hk := dataByte_deliversNothing b (s := { s with lineIn := rest }) hdrop
    exact .inr ⟨hk.returns, hk.buf⟩
  · have hk := exec_line_deliversNothing (s := { s with lineIn := rest }) (decodeLine_level hd) hdrop hx
    exact .inr ⟨hk.returns, hk.buf⟩
  · exact .inr (invalidFrame_deliversNothing s)
  · exact (exec_control_delivers_or_not (decodeControl_level hd) hx).imp_left fun hk => ⟨ha, hk⟩
  · obtain ⟨hbuf, hret⟩ := sendStep_receiver hs
    exact .inr (.of_noReturn hret fun _ _ => hbuf)
  · obtain ⟨hbuf, hret⟩ := sendStep_receiver hs
    exact .inr (.of_return (r := .sendExec (nothingStatus fatal)) (by simp) (by simp [hret]) fun _ _ => hbuf)
  · exact .inr (.of_return (r := .sendExec (noRoomStatus fatal s)) (by simp) rfl fun _ _ => rfl)

theorem framePayload_length (f : List Byte) : (framePayload f).length = f.length - 3 := by
  simp only [framePayload, List.length_take, List.length_drop]
  omega

/-- The buffer begins with the payload delivered: the invariant says so of a frame that was not dropped. -/
theorem Delivers.take_rxBuf {s t : State} (hd : Delivers s t) (hf : FrameOk s) (ha : s.activity = .frameEnd) :
    t.rxBuf.take (framePayload s.rxFrame).length = framePayload s.rxFrame := by
  rw [framePayload_length, hd.buf]
  exact hf.buf_payload ha hd.free

/-- Settles O54: the two ways of a step, with what the invariant says of the frame that waits for `processFrame` and of a
frame being received while the buffer is held. -/
theorem heldBufferKept : Obligations.HeldBufferKept := by
  intro s t hinv h
  rcases step_delivers_or_not hinv.decoder.held_drop h with ⟨ha, hd⟩ | hn
  · refine ⟨fun payload hp => ?_, fun _ _ => hd.buf⟩
    obtain rfl : framePayload s.rxFrame = payload := by simpa [hd.returns] using hp
    exact ⟨hd.held, hd.take_rxBuf hinv.frame ha⟩
  · exact ⟨fun payload hp => absurd hp (hn.returns payload), hn.buf⟩

end Sys2Proof.Laws
end

section
/-! SUPPORT. The control byte as a number, the rows of its table, the decoders as inverses of `encode`, and stuffing:
the statements of the family 30_encoding.md, O2, O3, O4, O9 and O17. -/

namespace Sys2Proof.Laws

open Sys2Proof.Machine

/-! ### The fields of a control byte as digits of its value (30_encoding.md R105 to R107) -/

theorem ctlFrmNum_toNat (c : Byte) : (ctlFrmNum c).toNat = c.toNat / 16 % 8 := by
  simp [ctlFrmNum, Nat.shiftRight_eq_div_pow]

theorem ctlAckNum_toNat (c : Byte) : (ctlAckNum c).toNat = c.toNat % 8 := by
  simp [ctlAckNum]

theorem ctlBit3_toNat (c : Byte) : (ctlBit3 c).toNat = c.toNat / 8 % 2 := by
  rw [ctlBit3, BitVec.getLsbD, Nat.toNat_testBit]

theorem ctlBit4_toNat (c : Byte) : (ctlBit4 c).toNat = c.toNat / 16 % 2 := by
  rw [ctlBit4, BitVec.getLsbD, Nat.toNat_testBit]

theorem boolToNat_injective : Function.Injective Bool.toNat := Function.LeftInverse.injective Bool.ofNat_toNat

theorem encode_data_toNat (f : SeqNum) (r : Bool) (a : SeqNum) :
    (encode (.data f r a)).toNat = 16 * f.toNat + 8 * r.toNat + a.toNat := by
  revert f r a; decide

theorem encode_ack_toNat (p n : Bool) (a : SeqNum) :
    (encode (.ack p n a)).toNat = 0x80 + 16 * p.toNat + 8 * n.toNat + a.toNat := by
  revert p n a; decide

theorem encode_nak_toNat (p n : Bool) (a : SeqNum) :
    (encode (.nak p n a)).toNat = 0xA0 + 16 * p.toNat + 8 * n.toNat + a.toNat := by
  revert p n a; decide

/-! ### The rows of the table of control bytes (30_encoding.md R104) -/

theorem data_row_iff (c : Byte) : c &&& 0x80#8 = 0x00#8 ↔ c.toNat ≤ 0x7F := by
  revert c; decide

theorem ack_row_iff (c : Byte) : c &&& 0xE0#8 = 0x80#8 ↔ 0x80 ≤ c.toNat ∧ c.toNat ≤ 0x9F := by
  revert c; decide

theorem nak_row_iff (c : Byte) : c &&& 0xE0#8 = 0xA0#8 ↔ 0xA0 ≤ c.toNat ∧ c.toNat ≤ 0xBF := by
  revert c; decide

theorem decodeControl_data {c : Byte} (h : c &&& 0x80#8 = 0x00#8) :
    decodeControl c = .ok (.data (ctlFrmNum c) (ctlBit3 c) (ctlAckNum c)) := if_pos h

theorem decodeControl_ack {c : Byte} (h : c &&& 0xE0#8 = 0x80#8) :
    decodeControl c = .ok (.ack (ctlBit4 c) (ctlBit3 c) (ctlAckNum c)) := by
  have hd : ¬c &&& 0x80#8 = 0x00#8 := by rw [data_row_iff]; rw [ack_row_iff] at h; omega
  rw [decodeControl, if_neg hd, if_pos h]

theorem decodeControl_nak {c : Byte} (h : c &&& 0xE0#8 = 0xA0#8) :
    decodeControl c = .ok (.nak (ctlBit4 c) (ctlBit3 c) (ctlAckNum c)) := by
  have hd : ¬c &&& 0x80#8 = 0x00#8 := by rw [data_row_iff]; rw [nak_row_iff] at h; omega
  have ha : ¬c &&& 0xE0#8 = 0x80#8 := by rw [h]; decide
  rw [decodeControl, if_neg hd, if_neg ha, if_pos h]

/-- The bytes above the last row meet no row's test. -/
theorem no_row_of_ge {c : Byte} (h : 0xC3 ≤ c.toNat) :
    ¬c &&& 0x80#8 = 0x00#8 ∧ ¬c &&& 0xE0#8 = 0x80#8 ∧ ¬c &&& 0xE0#8 = 0xA0#8 ∧
      c ≠ 0xC0#8 ∧ c ≠ 0xC1#8 ∧ c ≠ 0xC2#8 := by
  rw [data_row_iff, ack_row_iff, nak_row_iff]
  refine ⟨by omega, by omega, by omega, ?_, ?_, ?_⟩ <;> (rintro rfl; revert h; decide)

theorem decodeControl_unassigned {c : Byte} (h : 0xC3 ≤ c.toNat) :
    decodeControl c = .error .unassignedControl := by
  obtain ⟨hdata, hack, hnak, hrst, hrstack, herror⟩ := no_row_of_ge h
  rw [decodeControl, if_neg hdata, if_neg hack, if_neg hnak, if_neg hrst, if_neg hrstack, if_neg herror]

/-- Settles O3: the assemblies as numbers, and `decodeControl` row by row. -/
theorem controlByteTable : Obligations.ControlByteTable :=
  ⟨encode_data_toNat, encode_ack_toNat, encode_nak_toNat, fun _ =>
    ⟨decodeControl_data, decodeControl_ack, decodeControl_nak,
      fun h => h ▸ rfl, fun h => h ▸ rfl, fun h => h ▸ rfl, decodeControl_unassigned⟩⟩

/-! ### The decoders undo `encode` -/

/-- The digits of a value with three bits `k` on top: the layout ACK and NAK share. -/
theorem ctlFields_of_toNat {c : Byte} {p n : Bool} {a : SeqNum} {k : Nat}
    (hv : c.toNat = 32 * k + 16 * p.toNat + 8 * n.toNat + a.toNat) :
    ctlBit4 c = p ∧ ctlBit3 c = n ∧ ctlAckNum c = a := by
  have hp := p.toNat_lt
  have hn := n.toNat_lt
  have ha := a.isLt
  refine ⟨boolToNat_injective ?_, boolToNat_injective ?_, BitVec.eq_of_toNat_eq ?_⟩
  · rw [ctlBit4_toNat]; omega
  · rw [ctlBit3_toNat]; omega
  · rw [ctlAckNum_toNat]; omega

theorem decodeControl_encode_data (f : SeqNum) (r : Bool) (a : SeqNum) :
    decodeControl (encode (.data f r a)) = .ok (.data f r a) := by
  have hv := encode_data_toNat f r a
  have hr := r.toNat_lt
  have ha := a.isLt
  have hfrm : ctlFrmNum (encode (.data f r a)) = f := BitVec.eq_of_toNat_eq (by rw [ctlFrmNum_toNat]; omega)
  have hbit : ctlBit3 (encode (.data f r a)) = r := boolToNat_injective (by rw [ctlBit3_toNat]; omega)
  have hack : ctlAckNum (encode (.data f r a)) = a := BitVec.eq_of_toNat_eq (by rw [ctlAckNum_toNat]; omega)
  rw [decodeControl_data (RowMatch.data f r a), hfrm, hbit, hack]

theorem decodeControl_encode_ack (p n : Bool) (a : SeqNum) :
    decodeControl (encode (.ack p n a)) = .ok (.ack p n a) := by
  obtain ⟨hp, hn, ha⟩ := ctlFields_of_toNat (k := 4) (encode_ack_toNat p n a)
  rw [decodeControl_ack (RowMatch.ack p n a), hp, hn, ha]

theorem decodeControl_encode_nak (p n : Bool) (a : SeqNum) :
    decodeControl (encode (.nak p n a)) = .ok (.nak p n a) := by
  obtain ⟨hp, hn, ha⟩ := ctlFields_of_toNat (k := 5) (encode_nak_toNat p n a)
  rw [decodeControl_nak (RowMatch.nak p n a), hp, hn, ha]

theorem decodeAt_level_encode (i : Instr) : decodeAt i.level (encode i) = .ok i := by
  cases i with
  | data f r a => exact decodeControl_encode_data f r a
  | ack p n a => exact decodeControl_encode_ack p n a
  | nak p n a => exact decodeControl_encode_nak p n a
  | _ => rfl

/-! ### `encode` undoes the decoders -/

theorem encode_data_ctlFields {c : Byte} (h : c &&& 0x80#8 = 0x00#8) :
    encode (.data (ctlFrmNum c) (ctlBit3 c) (ctlAckNum c)) = c := by
  rw [data_row_iff] at h
  apply BitVec.eq_of_toNat_eq
  rw [encode_data_toNat, ctlFrmNum_toNat, ctlBit3_toNat, ctlAckNum_toNat]
  omega

theorem encode_ack_ctlFields {c : Byte} (h : c &&& 0xE0#8 = 0x80#8) :
    encode (.ack (ctlBit4 c) (ctlBit3 c) (ctlAckNum c)) = c := by
  rw [ack_row_iff] at h
  apply BitVec.eq_of_toNat_eq
  rw [encode_ack_toNat, ctlBit4_toNat, ctlBit3_toNat, ctlAckNum_toNat]
  omega

theorem encode_nak_ctlFields {c : Byte} (h : c &&& 0xE0#8 = 0xA0#8) :
    encode (.nak (ctlBit4 c) (ctlBit3 c) (ctlAckNum c)) = c := by
  rw [nak_row_iff] at h
  apply BitVec.eq_of_toNat_eq
  rw [encode_nak_toNat, ctlBit4_toNat, ctlBit3_toNat, ctlAckNum_toNat]
  omega

theorem encode_of_decodeControl {c : Byte} {i : Instr} (h : decodeControl c = .ok i) : encode i = c := by
  unfold decodeControl at h
  split at h
  · cases h; exact encode_data_ctlFields ‹_›
  split at h
  · cases h; exact encode_ack_ctlFields ‹_›
  split at h
  · cases h; exact encode_nak_ctlFields ‹_›
  -- RST, RSTACK and ERROR are one byte each
  repeat (split at h; · cases h; exact Eq.symm ‹_›)
  cases h

theorem encode_of_decodeLine {b : Byte} {i : Instr} (h : decodeLine b = .ok i) : encode i = b := by
  unfold decodeLine at h
  repeat (split at h; · cases h; exact Eq.symm ‹_›)
  cases h

/-- Settles O2: level by level, through the value of the byte and the digits its fields are. -/
theorem rowsRoundTrip : Obligations.RowsRoundTrip := by
  refine ⟨decodeAt_level_encode, fun l b i h => ?_⟩
  cases l with
  | control => exact ⟨decodeControl_level h, encode_of_decodeControl h⟩
  | line => exact ⟨decodeLine_level h, encode_of_decodeLine h⟩

/-! ### Table words (log entry 6) -/

theorem decodeTableWord_byte (b : Byte) : decodeTableWord 8 b.toNat = (decodeWord b).toOption := by
  simp [decodeTableWord, tableBytes]

/-- An instruction whose byte stands alone is read back from its table word. -/
theorem decodeTableWord_encode {i : Instr} (h : i.standsAlone = true) :
    decodeTableWord 8 (encode i).toNat = some i := by
  rw [decodeTableWord_byte]
  unfold Instr.standsAlone at h
  split at h
  · rename_i j hj
    rw [hj, of_decide_eq_true h]
    rfl
  · cases h

theorem decodeWord_unassigned : decodeWord 0xC3#8 = .error .unassignedControl :=
  decodeControl_unassigned (c := 0xC3#8) (by decide)

/-- Settles O4: each word is the byte of an instruction that stands alone, but for C3. -/
theorem wordsWrittenOut : Obligations.WordsWrittenOut :=
  ⟨decodeTableWord_encode (i := .data 5#3 true 5#3) rfl, decodeTableWord_encode (i := .ack true true 3#3) rfl,
    decodeTableWord_encode (i := .nak false false 6#3) rfl, decodeTableWord_encode (i := .rst) rfl,
    decodeTableWord_encode (i := .rstack) rfl, decodeTableWord_encode (i := .error) rfl,
    (decodeTableWord_byte 0xC3#8).trans (congrArg Except.toOption decodeWord_unassigned),
    decodeTableWord_encode (i := .flag) rfl, decodeTableWord_encode (i := .escape) rfl,
    decodeTableWord_encode (i := .xon) rfl, decodeTableWord_encode (i := .xoff) rfl,
    decodeTableWord_encode (i := .substitute) rfl, decodeTableWord_encode (i := .cancel) rfl,
    decodeTableWord_encode (i := .wake) rfl⟩

/-! ### The class of a received frame (30_encoding.md R112) -/

theorem classify_unassigned {c : Byte} (h : 0xC3 ≤ c.toNat) (n : Nat) : classify c n = .invalid := by
  have hbit : ¬c.getLsbD 7 = false := by
    simp only [BitVec.getLsbD, Nat.testBit_eq_decide_div_mod_eq, decide_eq_false_iff_not]
    omega
  obtain ⟨-, hack, hnak, hrst, -, herror⟩ := no_row_of_ge h
  rw [classify, if_neg hbit, if_neg hack, if_neg hnak, if_neg hrst, if_neg herror]

/-- Settles O17: a byte of a row is the encoding of its fields, whose class is known. -/
theorem classifyTable : Obligations.ClassifyTable := by
  intro c n _
  refine ⟨fun h => ?_, fun hlo hhi => ?_, fun hlo hhi => ?_, ?_, ?_, ?_, fun h => classify_unassigned h n⟩
  · rw [← encode_data_ctlFields ((data_row_iff c).mpr h), classify_data]
  · rw [← encode_ack_ctlFields ((ack_row_iff c).mpr ⟨hlo, hhi⟩), classify_ack]
  · rw [← encode_nak_ctlFields ((nak_row_iff c).mpr ⟨hlo, hhi⟩), classify_nak]
  · rintro rfl; exact classify_rst n
  · rintro rfl; exact classify_rstack n
  · rintro rfl; exact classify_error n

/-! ### Stuffing (30_encoding.md R103, R114, 40_codec.md R144) -/

theorem isStuffed_iff (b : Byte) : isStuffed b = true ↔ b ∈ [0x7E#8, 0x7D#8, 0x11#8, 0x13#8, 0x18#8, 0x1A#8] := by
  simp [isStuffed, or_assoc]

/-- The reserved values that a stuffed sequence must not hold are stuffed, and none is ESCAPE. -/
theorem isStuffed_of_mem_five {b : Byte} (h : b ∈ [0x7E#8, 0x11#8, 0x13#8, 0x18#8, 0x1A#8]) :
    isStuffed b = true ∧ b ≠ 0x7D#8 := by
  revert b
  decide

/-- The second byte of a stuffed pair is none of the six. -/
theorem isStuffed_xor {b : Byte} (h : isStuffed b = true) : isStuffed (b ^^^ 0x20#8) = false := by
  rw [isStuffed_iff] at h
  revert b
  decide

/-- On the line of one byte, only ESCAPE is one of the six. -/
theorem eq_escape_of_mem_stuffByte {x b : Byte} (h : b ∈ stuffByte x) (hb : isStuffed b = true) : b = 0x7D#8 := by
  unfold stuffByte at h
  split at h
  · next hx =>
    rcases List.mem_pair.mp h with rfl | rfl
    · rfl
    · rw [isStuffed_xor hx] at hb; cases hb
  · next hx => exact absurd (List.mem_singleton.mp h ▸ hb) hx

/-- The line bytes of one byte tell the byte and where the next one begins. -/
theorem stuffByte_append_inj {x y : Byte} {l m : List Byte} (h : stuffByte x ++ l = stuffByte y ++ m) :
    x = y ∧ l = m := by
  unfold stuffByte at h
  split at h <;> split at h
  · simpa using h
  · next _ hy => exact absurd ((List.cons.inj h).1 ▸ by decide) hy
  · next hx _ => exact absurd ((List.cons.inj h).1 ▸ by decide) hx
  · simpa using h

theorem stuffByte_ne_nil (x : Byte) : stuffByte x ≠ [] := by
  unfold stuffByte
  split <;> simp

theorem stuff_injective : Function.Injective stuff := by
  intro xs
  induction xs with
  | nil =>
    intro ys h
    cases ys with
    | nil => rfl
    | cons y ys => exact absurd (List.append_eq_nil_iff.mp h.symm).1 (stuffByte_ne_nil y)
  | cons x xs ih =>
    intro ys h
    cases ys with
    | nil => exact absurd (List.append_eq_nil_iff.mp h).1 (stuffByte_ne_nil x)
    | cons y ys =>
      obtain ⟨rfl, htail⟩ := stuffByte_append_inj h
      rw [ih htail]

/-- Settles O9: byte by byte, ESCAPE alone of the six is written, and each byte's line bytes end where they show. -/
theorem stuffingAvoidsFiveBytesAndIsInjective : Obligations.StuffingAvoidsFiveBytesAndIsInjective := by
  refine ⟨fun bytes b hb hfive => ?_, fun _ _ h => stuff_injective h⟩
  obtain ⟨x, -, hx⟩ := List.mem_flatMap.mp hb
  obtain ⟨hstuffed, hne⟩ := isStuffed_of_mem_five hfive
  exact hne (eq_escape_of_mem_stuffByte hx hstuffed)

end Sys2Proof.Laws
end

section
/-! SUPPORT. The CRC as two bytes, the encoder call by call, and what each line byte does to the decoder: the statements
of the family 40_codec.md, O7, O8, O11 to O16 and O52. -/

namespace Sys2Proof.Laws

open Sys2Proof.Machine Sys2Proof.Safety

/-! ### The CRC as two bytes (40_codec.md R143) -/

/-- A word is two bytes put together exactly if they are its high and its low byte. -/
theorem eq_crc_of_bytes_iff (w : CrcWord) (a b : Byte) :
    w = (a.setWidth 16 <<< 8) ||| b.setWidth 16 ↔ a = hiByte w ∧ b = loByte w := by
  constructor
  · rintro rfl
    constructor <;> ext i hi
    all_goals
      have hlow : i < 16 := by omega
      have hhigh : 8 + i < 16 := by omega
      simp [hiByte, loByte, hi, hlow, hhigh]
  · rintro ⟨rfl, rfl⟩
    exact (crc_of_bytes w).symm

theorem crcGood_append_pair (p : RawParams) (body : List Byte) (a b : Byte) :
    crcGood p (body ++ [a, b]) = true ↔ a = hiByte (crc16 p body) ∧ b = loByte (crc16 p body) := by
  rw [← eq_crc_of_bytes_iff]
  simp [crcGood]

theorem exists_eq_append_pair {f : List Byte} (h : 2 ≤ f.length) : ∃ body a b, f = body ++ [a, b] := by
  obtain ⟨a, b, hab⟩ := List.length_eq_two.mp (show (f.drop (f.length - 2)).length = 2 by simp; omega)
  exact ⟨_, a, b, by rw [← hab, List.take_append_drop]⟩

/-- Settles O7: by the last two bytes of the frame, which the checker puts together and the generator takes apart. -/
theorem crcCheckAcceptsGenerated : Obligations.CrcCheckAcceptsGenerated := by
  intro p f hlen
  obtain ⟨body, a, b, rfl⟩ := exists_eq_append_pair hlen
  rw [crcGood_append_pair]
  constructor
  · rintro ⟨rfl, rfl⟩
    exact ⟨body, rfl⟩
  · rintro ⟨body', h⟩
    obtain ⟨rfl, htail⟩ := List.append_inj' h rfl
    simpa [hiByte, loByte] using htail

/-! ### The encoder, call by call (40_codec.md R146, R147, R149) -/

/-- What the encoder keeps: in phase BODY a body byte is left, and a frame that is done has no byte pending. -/
structure EncReady (e : Encoder) : Prop where
  body_left : e.phase = .body → e.idx < e.body.length
  done_no_esc : e.phase = .done → e.esc = none

theorem encStart_ready (p : RawParams) {body : List Byte} (h : body ≠ []) : EncReady (encStart p body) :=
  ⟨fun _ => List.length_pos_iff.mpr h, nofun⟩

/-- The encoder after the body byte `b` has been taken (R146). -/
def takeBodyByte (p : RawParams) (b : Byte) (e : Encoder) : Encoder :=
  { e with
    crc := crc16Step p e.crc b
    idx := e.idx + 1
    phase := if e.idx + 1 = e.body.length then .crcHi else .body }

theorem encNext_pending {p : RawParams} {e : Encoder} {v : Byte} (he : e.esc = some v) :
    encNext p e = some (v, { e with esc := none }) := by
  simp only [encNext, he]

theorem encNext_body_phase {p : RawParams} {e : Encoder} (he : e.esc = none) (hp : e.phase = .body)
    (hi : e.idx < e.body.length) : encNext p e = some (encEmit e.body[e.idx] (takeBodyByte p e.body[e.idx] e)) := by
  simp only [encNext, he, hp, List.getElem?_eq_getElem hi, takeBodyByte]

theorem encNext_crcHi {p : RawParams} {e : Encoder} (he : e.esc = none) (hp : e.phase = .crcHi) :
    encNext p e = some (encEmit (hiByte e.crc) { e with phase := .crcLo }) := by
  simp only [encNext, he, hp]

theorem encNext_crcLo {p : RawParams} {e : Encoder} (he : e.esc = none) (hp : e.phase = .crcLo) :
    encNext p e = some (encEmit (loByte e.crc) { e with phase := .flag }) := by
  simp only [encNext, he, hp]

theorem encNext_flag {p : RawParams} {e : Encoder} (he : e.esc = none) (hp : e.phase = .flag) :
    encNext p e = some (0x7E#8, { e with phase := .done }) := by
  simp only [encNext, he, hp]

/-- The pending byte of a stuffed pair goes first. -/
theorem txWire_esc (p : RawParams) (e : Encoder) : txWire p e = e.esc.toList ++ txWire p { e with esc := none } := by
  cases hp : e.phase <;> simp [txWire, hp]

theorem takeBodyByte_last {p : RawParams} {b : Byte} {e : Encoder} (h : e.idx + 1 = e.body.length) :
    (takeBodyByte p b e).phase = .crcHi := if_pos h

theorem takeBodyByte_more {p : RawParams} {b : Byte} {e : Encoder} (h : e.idx + 1 ≠ e.body.length) :
    (takeBodyByte p b e).phase = .body := if_neg h

theorem takeBodyByte_phase_ne_done (p : RawParams) (b : Byte) (e : Encoder) : (takeBodyByte p b e).phase ≠ .done := by
  by_cases h : e.idx + 1 = e.body.length
  · simp [takeBodyByte_last h]
  · simp [takeBodyByte_more h]

theorem takeBodyByte_ready {p : RawParams} {b : Byte} {e : Encoder} (hi : e.idx < e.body.length) :
    EncReady (takeBodyByte p b e) := by
  refine ⟨fun hp => ?_, fun hd => absurd hd (takeBodyByte_phase_ne_done p b e)⟩
  have hmore : e.idx + 1 ≠ e.body.length := fun h => by simp [takeBodyByte_last h] at hp
  exact Nat.lt_of_le_of_ne hi hmore

/-- In phase BODY the line bytes of the next body byte come first; after the last body byte those of the CRC are left. -/
theorem txWire_takeBodyByte {p : RawParams} {e : Encoder} (he : e.esc = none) (hp : e.phase = .body)
    (hi : e.idx < e.body.length) :
    txWire p e = stuffByte e.body[e.idx] ++ txWire p (takeBodyByte p e.body[e.idx] e) := by
  have hdrop := List.drop_eq_getElem_cons hi
  by_cases h : e.idx + 1 = e.body.length
  · have hnil : e.body.drop (e.idx + 1) = [] := List.drop_eq_nil_of_le h.ge
    rw [hnil] at hdrop
    simp only [txWire, hp, takeBodyByte_last h, hdrop]
    simp [takeBodyByte, he, stuff_cons]
  · simp only [txWire, hp, takeBodyByte_more h, hdrop, List.foldl_cons, List.cons_append, stuff_cons]
    simp [takeBodyByte, he]

theorem txWire_crcHi {p : RawParams} {e : Encoder} (he : e.esc = none) (hp : e.phase = .crcHi) :
    txWire p e = stuffByte (hiByte e.crc) ++ txWire p { e with phase := .crcLo } := by
  simp [txWire, he, hp, stuff_cons]

theorem txWire_crcLo {p : RawParams} {e : Encoder} (he : e.esc = none) (hp : e.phase = .crcLo) :
    txWire p e = stuffByte (loByte e.crc) ++ txWire p { e with phase := .flag } := by
  simp [txWire, he, hp, stuff]

theorem txWire_flag {p : RawParams} {e : Encoder} (he : e.esc = none) (hp : e.phase = .flag) :
    txWire p e = 0x7E#8 :: txWire p { e with phase := .done } := by
  simp [txWire, he, hp]

/-- `encEmit` writes the first of the line bytes of `b` and leaves the others for the next calls. -/
theorem encEmit_txWire (p : RawParams) (b : Byte) {e : Encoder} (he : e.esc = none) (hd : e.phase ≠ .done)
    (hr : EncReady e) :
    stuffByte b ++ txWire p e = (encEmit b e).1 :: txWire p (encEmit b e).2 ∧ EncReady (encEmit b e).2 := by
  obtain ⟨x, ⟨body, idx, crc, esc, phase⟩, hemit, hbytes, rfl, rfl, rfl, rfl⟩ := encEmit_cases b e he
  rw [hemit]
  refine ⟨?_, hr.body_left, fun h => absurd h hd⟩
  rw [hbytes, txWire_esc p ⟨_, _, _, esc, _⟩, ← he]

/-- One call of `encNext()` writes the first of the bytes that are left (R149). -/
theorem encNext_txWire (p : RawParams) {e : Encoder} (hr : EncReady e) (hd : e.phase ≠ .done) :
    ∃ b e', encNext p e = some (b, e') ∧ txWire p e = b :: txWire p e' ∧ EncReady e' := by
  cases he : e.esc with
  | some v => exact ⟨v, _, encNext_pending he, by rw [txWire_esc, he]; rfl, hr.body_left, fun _ => rfl⟩
  | none =>
    cases hp : e.phase with
    | body =>
      have hi := hr.body_left hp
      obtain ⟨hw, hready⟩ := encEmit_txWire p e.body[e.idx] (e := takeBodyByte p e.body[e.idx] e) he
        (takeBodyByte_phase_ne_done _ _ _) (takeBodyByte_ready hi)
      exact ⟨_, _, encNext_body_phase he hp hi, (txWire_takeBodyByte he hp hi).trans hw, hready⟩
    | crcHi =>
      obtain ⟨hw, hready⟩ := encEmit_txWire p (hiByte e.crc) (e := { e with phase := .crcLo }) he nofun ⟨nofun, nofun⟩
      exact ⟨_, _, encNext_crcHi he hp, (txWire_crcHi he hp).trans hw, hready⟩
    | crcLo =>
      obtain ⟨hw, hready⟩ := encEmit_txWire p (loByte e.crc) (e := { e with phase := .flag }) he nofun ⟨nofun, nofun⟩
      exact ⟨_, _, encNext_crcLo he hp, (txWire_crcLo he hp).trans hw, hready⟩
    | flag => exact ⟨_, _, encNext_flag he hp, txWire_flag he hp, nofun, fun _ => he⟩
    | done => exact absurd hp hd

/-- Nothing is left exactly when the frame is done (R147). -/
theorem txWire_eq_nil_iff (p : RawParams) {e : Encoder} (hr : EncReady e) : txWire p e = [] ↔ e.phase = .done := by
  constructor
  · intro h
    by_contra hd
    obtain ⟨b, e', -, hw, -⟩ := encNext_txWire p hr hd
    rw [h] at hw
    cases hw
  · intro hd
    simp [txWire, hd, hr.done_no_esc hd]

/-- `k` calls of `encNext()`, at most as many as bytes are left, write the first `k` of them. -/
theorem encTake_txWire (p : RawParams) (k : Nat) {e : Encoder} (hr : EncReady e) (hk : k ≤ (txWire p e).length) :
    ∃ bytes e', encTake p k e = some (bytes, e') ∧ bytes.length = k ∧ bytes ++ txWire p e' = txWire p e ∧
      e'.body = e.body ∧ EncReady e' := by
  induction k generalizing e with
  | zero => exact ⟨[], e, rfl, rfl, rfl, rfl, hr⟩
  | succ k ih =>
    have hd : e.phase ≠ .done := by
      intro hdone
      rw [(txWire_eq_nil_iff p hr).mpr hdone] at hk
      cases hk
    obtain ⟨b, e', hnext, hw, hr'⟩ := encNext_txWire p hr hd
    have hk' : k ≤ (txWire p e').length := by simpa [hw] using hk
    obtain ⟨bytes, e'', htake, hlen, hrest, hbody, hr''⟩ := ih hr' hk'
    exact ⟨b :: bytes, e'', by simp [encTake, hnext, htake], by simp [hlen], by rw [hw, ← hrest]; rfl,
      hbody.trans (encNext_body hnext), hr''⟩

theorem txWire_encStart (p : RawParams) (body : List Byte) : txWire p (encStart p body) = encodeFrame p body := rfl

/-- Settles O8: by induction on the number of calls, each of which writes the first byte of what is left. -/
theorem encoderWritesEncodeFrame : Obligations.EncoderWritesEncodeFrame := by
  intro p body hbody wire
  have hwire : txWire p (encStart p body) = wire := txWire_encStart p body
  refine ⟨rfl, fun k hk => ?_⟩
  obtain ⟨bytes, e, htake, hlen, hrest, hb, hr⟩ := encTake_txWire p k (encStart_ready p hbody) (hwire ▸ hk)
  rw [hwire] at hrest
  refine ⟨bytes, e, htake, hlen, hrest, hb, ?_⟩
  have hleft : k + (txWire p e).length = wire.length := by rw [← hrest, List.length_append, hlen]
  rw [encDone, decide_eq_true_iff, ← txWire_eq_nil_iff p hr, ← List.length_eq_zero_iff]
  omega

/-! ### The ends of `receive` (41_arq_receive.md R191) -/

/-- A frame the codec rejects asks for one NAK while Connected. -/
theorem codecError_eq_received {st : Status} (h : st ≠ .cancelled) (s : State) :
    codecError st s = received st none (if s.connected then rejected s else s) := by
  rw [codecError, reject_form]
  simp only [h, ne_eq, not_false_eq_true, and_true]
  rfl

/-- A cancelled frame asks for none. -/
theorem codecError_cancelled (s : State) : codecError .cancelled s = received .cancelled none s := by
  simp [codecError]
  rfl

theorem codecError_dec (st : Status) (s : State) : (codecError st s).dec = s.dec := by
  obtain ⟨r, n, h⟩ := codecError_form st s
  rw [h]; rfl

theorem codecError_returns (st : Status) (s : State) :
    (codecError st s).returns = s.returns ++ [.receive st none] := by
  obtain ⟨r, n, h⟩ := codecError_form st s
  rw [h]; rfl

/-! ### The line bytes that end a frame (40_codec.md R157, R158, R161) -/

theorem decActive_iff (d : Decoder) : decActive d = true ↔ d.frame ≠ [] ∨ d.err = true ∨ d.esc = true := by
  simp [decActive, or_assoc]

theorem exec_flag_of_err {s : State} (h : s.dec.err = true) :
    exec .flag s = .next (codecError .commError { s with dec := decClear s.dec }) := by
  simp only [exec, execFlag, h, if_true]

theorem exec_cancel_of_active {s : State} (h : decActive s.dec = true) :
    exec .cancel s = .next (codecError .cancelled { s with dec := decClear s.dec }) := by
  simp only [exec, execCancel, h, if_true]

theorem exec_cancel_of_inactive {s : State} (h : ¬decActive s.dec = true) : exec .cancel s = .next s := by
  simp only [exec, execCancel, if_neg h]

theorem crcGood_eq_false_iff (p : RawParams) (f : List Byte) : crcGood p f = false ↔
    crc16 p (f.take (f.length - 2)) ≠
      ((f.getD (f.length - 2) 0#8).setWidth 16 <<< 8 ||| (f.getD (f.length - 1) 0#8).setWidth 16) :=
  decide_eq_false_iff_not

/-- Settles O11: test by test, in the order of R157 and R158. -/
theorem flagOutcomes : Obligations.FlagOutcomes := by
  intro s f n u v
  have hv {st : Status} (h : st ≠ .cancelled) :
      codecError st { s with dec := decClear s.dec } = received st none v := codecError_eq_received h u
  simp only [exec, execFlag, crcGood_eq_false_iff, hv, ne_eq, reduceCtorEq, not_false_eq_true]
  repeat (split; · rfl)
  rfl

/-- Settles O14: `decActive` is the three tests of R43, and a cancelled frame asks for no NAK. -/
theorem cancelOutcomes : Obligations.CancelOutcomes := by
  intro s
  split
  · next h => rw [exec_cancel_of_active ((decActive_iff _).mpr h), codecError_cancelled]; rfl
  · next h => rw [exec_cancel_of_inactive (mt (decActive_iff _).mp h)]

/-! ### The line bytes that write one register (40_codec.md R162 to R165) -/

theorem exec_escape (s : State) : exec .escape s = .next { s with dec := { s.dec with esc := true } } := rfl

theorem exec_xon (s : State) : exec .xon s = .next { s with peerXoff := false } := rfl

theorem exec_xoff (s : State) : exec .xoff s = .next { s with peerXoff := true } := rfl

theorem exec_substitute (s : State) : exec .substitute s = .next { s with dec := { s.dec with err := true } } := rfl

/-- Settles O12: each of the three arms is one update of the state. -/
theorem lineSignalBytes : Obligations.LineSignalBytes := fun s => ⟨exec_escape s, exec_xon s, exec_xoff s⟩

/-! ### Data bytes (40_codec.md R166 to R170) -/

theorem dataByte_of_err (b : Byte) {s : State} (h : s.dec.err = true) : dataByte b s = s := by
  rw [dataByte, if_pos h]

/-- A data byte of a frame not yet marked as received in error: stored after unstuffing, or one too many. -/
theorem dataByte_of_noErr (b : Byte) {s : State} (h : s.dec.err = false) :
    let v := if s.dec.esc then b ^^^ 0x20#8 else b
    let drop := if s.dec.frame = [] then s.rxHeld else s.dec.drop
    let n := s.dec.frame.length
    dataByte b s =
      if n < s.cfg.maxDataLen + 3 then
        { s with
          dec := { frame := s.dec.frame ++ [v], esc := false, err := false, ovf := s.dec.ovf, drop := drop }
          rxBuf := if drop = false ∧ 3 ≤ n then s.rxBuf.set (n - 3) (s.dec.frame.getD (n - 2) 0#8) else s.rxBuf }
      else { s with dec := { frame := s.dec.frame, esc := false, err := false, ovf := true, drop := drop } } := by
  simp only [dataByte, storeLeaving, RawParams.maxFrameLen, h, List.isEmpty_iff, Bool.false_eq_true, if_false]

theorem exec_wake_of_active {s : State} (h : decActive s.dec = true) : exec .wake s = .next (dataByte 0xFF#8 s) := by
  simp only [exec, execWake, h, if_true]

theorem exec_wake_of_inactive {s : State} (h : ¬decActive s.dec = true) : exec .wake s = .next s := by
  simp only [exec, execWake, if_neg h]

theorem exec_wake_of_err {s : State} (h : s.dec.err = true) : exec .wake s = .next s := by
  rw [exec_wake_of_active ((decActive_iff _).mpr (.inr (.inl h))), dataByte_of_err _ h]

/-- Settles O15: by `decActive`, and inside a frame by what a data byte does. -/
theorem wakeOutcomes : Obligations.WakeOutcomes := by
  intro s
  refine ⟨fun hframe herr hesc => ?_, exec_wake_of_err, fun herr hactive => ?_⟩
  · exact exec_wake_of_inactive (by simp [decActive, hframe, herr, hesc])
  · have h : decActive s.dec = true := (decActive_iff _).mpr (hactive.imp_right .inr)
    exact (exec_wake_of_active h).trans (congrArg _ (dataByte_of_noErr _ herr))

/-! ### Line bytes on the way in (40_codec.md R156) -/

theorem decodeLine_of_not_mem {b : Byte} (h : b ∉ [0x7E#8, 0x1A#8, 0x11#8, 0x13#8, 0x18#8, 0x7D#8, 0xFF#8]) :
    decodeLine b = .error .dataByte := by
  simp only [List.mem_cons, List.not_mem_nil, not_or, or_false] at h
  simp [decodeLine, h]

/-- Settles O52: the four ways the fetch finds a byte. -/
theorem stepRunsFetched : Obligations.StepRunsFetched :=
  ⟨fun _ _ _ _ => step_of_lineInstr, fun _ _ _ => step_of_dataByte, fun _ _ _ _ => step_of_frameInstr,
    fun _ _ _ => step_of_unassigned⟩

/-- Settles O16: by `decErr`, and without it by what a data byte does. -/
theorem dataByteStep : Obligations.DataByteStep := by
  intro s b rest hact hline hb v drop n
  rw [step_of_dataByte hact hline (decodeLine_of_not_mem hb)]
  congr 1
  split
  · next herr => exact dataByte_of_err b herr
  · next herr => exact dataByte_of_noErr b (s := { s with lineIn := rest }) (eq_false_of_ne_true herr)

/-- Inside `receive` with `decErr` set, WAKE and the data bytes are consumed and change nothing (R166, R170). -/
theorem step_discards_of_err {s : State} {b : Byte} {rest : List Byte} (hact : s.activity = .receiving)
    (herr : s.dec.err = true) (hline : s.lineIn = b :: rest)
    (hb : b ∉ [0x7E#8, 0x1A#8, 0x11#8, 0x13#8, 0x18#8, 0x7D#8]) : step s = .next { s with lineIn := rest } := by
  by_cases hwake : b = 0xFF#8
  · subst hwake
    exact (step_of_lineInstr hact hline rfl).trans (exec_wake_of_err herr)
  · have hdata : decodeLine b = .error .dataByte := decodeLine_of_not_mem (by simp_all)
    exact (step_of_dataByte hact hline hdata).trans (congrArg _ (dataByte_of_err b herr))

/-- Inside `receive` with `decErr` set, XON, XOFF, SUBSTITUTE and ESCAPE leave `decErr` and the frame alone. -/
theorem step_keeps_err {s : State} {b : Byte} {rest : List Byte} (hact : s.activity = .receiving)
    (herr : s.dec.err = true) (hline : s.lineIn = b :: rest) (hb : b ∈ [0x11#8, 0x13#8, 0x18#8, 0x7D#8]) :
    ∃ t, step s = .next t ∧ t.dec.err = true ∧ t.dec.frame = s.dec.frame := by
  simp only [List.mem_cons, List.not_mem_nil, or_false] at hb
  obtain rfl | rfl | rfl | rfl := hb
  · exact ⟨_, (step_of_lineInstr hact hline rfl).trans (exec_xon _), herr, rfl⟩
  · exact ⟨_, (step_of_lineInstr hact hline rfl).trans (exec_xoff _), herr, rfl⟩
  · exact ⟨_, (step_of_lineInstr hact hline rfl).trans (exec_substitute _), rfl, rfl⟩
  · exact ⟨_, (step_of_lineInstr hact hline rfl).trans (exec_escape _), herr, rfl⟩

/-- Settles O13: SUBSTITUTE is one update; then by the line byte that comes, of which FLAG and CANCEL end the frame. -/
theorem substituteDiscardsUntilFlag : Obligations.SubstituteDiscardsUntilFlag := by
  refine ⟨exec_substitute, fun s b rest hact herr hline =>
    ⟨step_discards_of_err hact herr hline, step_keeps_err hact herr hline, ?_, ?_⟩⟩
  · rintro rfl
    exact ⟨_, (step_of_lineInstr hact hline rfl).trans (exec_flag_of_err herr), by rw [codecError_dec]; rfl,
      codecError_returns _ _⟩
  · rintro rfl
    have hactive : decActive s.dec = true := (decActive_iff _).mpr (.inr (.inl herr))
    exact ⟨_, (step_of_lineInstr hact hline rfl).trans (exec_cancel_of_active hactive), by rw [codecError_dec]; rfl,
      codecError_returns _ _⟩

end Sys2Proof.Laws
end

section
/-! SUPPORT. What a received frame does, class by class and case by case: the statements of the family
41_arq_receive.md, O18 to O26 and O28. -/

namespace Sys2Proof.Laws

open Sys2Proof.Machine Sys2Proof.Safety

/-! ### The shared procedures in the words of the statements -/

theorem finishReceive_eq_received (st : Status) (p : Option Payload) (s : State) :
    finishReceive st p s = received st p s := rfl

theorem reject_eq_rejected (s : State) : reject s = rejected s := reject_form s

/-- In the reject condition no second NAK is asked for (41_arq_receive.md R196). -/
theorem reject_of_rej {s : State} (h : s.rej = true) : reject s = s := if_pos h

theorem initLink_eq_connectionStart (s : State) : initLink s = connectionStart s := rfl

theorem canAfterAbandon_eq_cancelOwed (s : State) : canAfterAbandon s = cancelOwed s := rfl

theorem badAckNum_eq_received (s : State) : badAckNum s = received .badAckNum none (rejected s) := by
  rw [badAckNum, reject_eq_rejected, finishReceive_eq_received]

theorem invalidFrame_of_connected {s : State} (h : s.connected = true) :
    invalidFrame s = received .badControl none (rejected s) := by
  rw [invalidFrame, if_pos h, reject_eq_rejected, finishReceive_eq_received]

theorem invalidFrame_of_notConnected {s : State} (h : s.connected = false) :
    invalidFrame s = notConnected .invalid s := by
  simp only [invalidFrame, h, Bool.false_eq_true, if_false]

/-! ### The link resets (41_arq_receive.md R192, R194) -/

theorem exec_rst_of_length {s : State} (h : s.rxFrame.length = 3) :
    exec .rst s = .next (received .rstReceived none (reinitOnRst s)) := by
  simp only [exec, execRst, frameClass, classify_rst, h, if_true, finishReceive_eq_received]

theorem exec_error_of_connected {s : State} (h : s.rxFrame.length = 5) (hc : s.connected = true) :
    exec .error s = .next (received .errorReceived none
      (linkDown s.cfg.errcPeerError false { s with peerErrCode := frameCode s.rxFrame })) := by
  simp only [exec, execError, frameClass, classify_error, h, hc, if_true, finishReceive_eq_received]

/-- Settles O18: a three-byte RST runs `reinitOnRst`, which is `initLink` and the registers named. -/
theorem rstReinitialises : Obligations.RstReinitialises := by
  intro s h
  rw [exec_rst_of_length h, reinitOnRst, initLink_eq_connectionStart, canAfterAbandon_eq_cancelOwed]
  rfl

/-- Settles O19: a five-byte ERROR while Connected runs `linkDown`, with the code in byte 2 of the frame. -/
theorem errorTakesLinkDown : Obligations.ErrorTakesLinkDown := by
  intro s c version code hi lo hf hc
  have hcode : frameCode s.rxFrame = code := by rw [hf]; rfl
  rw [exec_error_of_connected (by rw [hf]; rfl) hc, hcode, linkDown, initLink_eq_connectionStart,
    canAfterAbandon_eq_cancelOwed]
  rfl

/-! ### The class decides (41_arq_receive.md R190) -/

theorem exec_data (f : SeqNum) (r : Bool) (a : SeqNum) (s : State) :
    exec (.data f r a) s = .next (ackBearingFrame .data a (dataReceived f r) s) := by
  simp only [exec, execData, frameClass, classify_data, if_true]

theorem exec_ack_of_length (p n : Bool) (a : SeqNum) {s : State} (h : s.rxFrame.length = 3) :
    exec (.ack p n a) s = .next (ackBearingFrame .ack a (ackReceived n) s) := by
  simp only [exec, execAck, frameClass, classify_ack, h, if_true]

theorem exec_nak_of_length (p n : Bool) (a : SeqNum) {s : State} (h : s.rxFrame.length = 3) :
    exec (.nak p n a) s = .next (ackBearingFrame .nak a (nakReceived n) s) := by
  simp only [exec, execNak, frameClass, classify_nak, h, if_true]

/-- A frame of class INVALID is treated alike, whatever its control byte. -/
theorem exec_of_invalid {i : Instr} {s : State} (hl : i.level = .control)
    (h : classify (encode i) s.rxFrame.length = .invalid) : exec i s = .next (invalidFrame s) := by
  have hcls : frameClass i s = .invalid := h
  cases i with
  | data f r a => simp only [exec, execData, hcls, reduceCtorEq, if_false]
  | ack p n a => simp only [exec, execAck, hcls, reduceCtorEq, if_false]
  | nak p n a => simp only [exec, execNak, hcls, reduceCtorEq, if_false]
  | rst => simp only [exec, execRst, hcls, reduceCtorEq, if_false]
  | rstack => rfl
  | error => simp only [exec, execError, hcls, reduceCtorEq, if_false]
  | _ => cases hl

/-- A control byte without a row lies above the last row of the table (30_encoding.md R104). -/
theorem ge_of_decodeControl_error {c : Byte} {x : NotAnInstr} (h : decodeControl c = .error x) : 0xC3 ≤ c.toNat := by
  by_contra hlt
  obtain hd | ha | hn | hrst | hrstack | herror :
      c.toNat ≤ 0x7F ∨ (0x80 ≤ c.toNat ∧ c.toNat ≤ 0x9F) ∨ (0xA0 ≤ c.toNat ∧ c.toNat ≤ 0xBF) ∨
        c = 0xC0#8 ∨ c = 0xC1#8 ∨ c = 0xC2#8 := by
    simp only [← BitVec.toNat_inj, BitVec.toNat_ofNat]
    omega
  · simp [decodeControl_data ((data_row_iff c).mpr hd)] at h
  · simp [decodeControl_ack ((ack_row_iff c).mpr ha)] at h
  · simp [decodeControl_nak ((nak_row_iff c).mpr hn)] at h
  · subst hrst; cases h
  · subst hrstack; cases h
  · subst herror; cases h

/-! ### Frames received while not Connected (41_arq_receive.md R193) -/

theorem ackBearingFrame_of_notConnected (cls : FrameClass) (a : SeqNum) (act : State → State) {s : State}
    (h : s.connected = false) : ackBearingFrame cls a act s = notConnected cls s := if_pos h

theorem exec_error_of_notConnected {s : State} (h : s.rxFrame.length = 5) (hc : s.connected = false) :
    exec .error s = .next (notConnected .error s) := by
  simp only [exec, execError, frameClass, classify_error, h, hc, if_true, Bool.false_eq_true, if_false]

/-- While not Connected only the class of a frame matters, unless it is RST. -/
theorem exec_of_notConnected {i : Instr} {s : State} (hl : i.level = .control) (hc : s.connected = false)
    (hcls : classify (encode i) s.rxFrame.length ≠ .rst) :
    exec i s = .next (notConnected (classify (encode i) s.rxFrame.length) s) := by
  by_cases hinv : classify (encode i) s.rxFrame.length = .invalid
  · rw [exec_of_invalid hl hinv, invalidFrame_of_notConnected hc, hinv]
  cases i with
  | data f r a => rw [exec_data, ackBearingFrame_of_notConnected _ _ _ hc, classify_data]
  | ack p n a =>
    have h3 : s.rxFrame.length = 3 := by simpa [classify_ack] using hinv
    rw [exec_ack_of_length p n a h3, ackBearingFrame_of_notConnected _ _ _ hc, classify_ack, if_pos h3]
  | nak p n a =>
    have h3 : s.rxFrame.length = 3 := by simpa [classify_nak] using hinv
    rw [exec_nak_of_length p n a h3, ackBearingFrame_of_notConnected _ _ _ hc, classify_nak, if_pos h3]
  | rst => exact absurd (by simpa [classify_rst] using hinv) (by simpa [classify_rst] using hcls)
  | rstack => exact absurd (classify_rstack _) hinv
  | error =>
    have h5 : s.rxFrame.length = 5 := by simpa [classify_error] using hinv
    rw [exec_error_of_notConnected h5 hc, classify_error, if_pos h5]
  | _ => cases hl

theorem step_of_notConnected {s : State} {c : Byte} {rest : List Byte} (hc : s.connected = false)
    (ha : s.activity = .frameEnd) (hf : s.rxFrame = c :: rest) (hcls : classify c s.rxFrame.length ≠ .rst) :
    step s = .next (notConnected (classify c s.rxFrame.length) s) := by
  cases hd : decodeControl c with
  | ok i =>
    obtain rfl := encode_of_decodeControl hd
    rw [step_of_frameInstr ha hf hd, exec_of_notConnected (decodeControl_level hd) hc hcls]
  | error x =>
    rw [step_of_unassigned ha hf hd, invalidFrame_of_notConnected hc,
      classify_unassigned (ge_of_decodeControl_error hd)]

/-- Settles O20: the frame's class goes to `notConnected`, whose three ends are the statement's. -/
theorem framesWhileNotConnected : Obligations.FramesWhileNotConnected :=
  fun _ hc => ⟨fun _ hl hcls => exec_of_notConnected hl hc hcls, fun _ _ ha hf hcls => step_of_notConnected hc ha hf hcls⟩

/-- Settles O21: RSTACK has class INVALID at any length, and a byte above the last row reaches no instruction. -/
theorem invalidWhileConnected : Obligations.InvalidWhileConnected := by
  intro s hc
  rw [← invalidFrame_of_connected hc]
  exact ⟨rfl, fun i => exec_of_invalid, fun c rest ha hf hge => step_of_unassigned ha hf (decodeControl_unassigned hge)⟩

/-! ### The ack number (41_arq_receive.md R197 to R199) -/

/-- The frames that carry an ack number all begin with the tests of `ackBearingFrame`. -/
theorem exec_of_carriesAckNum {i : Instr} {a : SeqNum} {s : State} (h : carriesAckNum i s.rxFrame.length a) :
    ∃ cls act, exec i s = .next (ackBearingFrame cls a act s) := by
  rcases h with ⟨f, r, rfl⟩ | ⟨p, n, rfl, h3⟩ | ⟨p, n, rfl, h3⟩
  · exact ⟨_, _, exec_data f r a s⟩
  · exact ⟨_, _, exec_ack_of_length p n a h3⟩
  · exact ⟨_, _, exec_nak_of_length p n a h3⟩

theorem ackBearingFrame_of_outside (cls : FrameClass) {a : SeqNum} (act : State → State) {s : State}
    (hc : s.connected = true) (hw : dist8 s.ackRx s.frmTx < dist8 s.ackRx a) :
    ackBearingFrame cls a act s = received .badAckNum none (rejected s) := by
  have hout : within8 s.ackRx a s.frmTx = false := decide_eq_false (Nat.not_le.mpr hw)
  simp only [ackBearingFrame, hc, hout, Bool.true_eq_false, if_false, if_true, badAckNum_eq_received]

/-- Settles O22: of all that `ackBearingFrame` does, the window test comes before what the frame itself does. -/
theorem ackNumberOutsideWindow : Obligations.AckNumberOutsideWindow := by
  intro i a s hi hc hw
  obtain ⟨cls, act, h⟩ := exec_of_carriesAckNum hi
  rw [h, ackBearingFrame_of_outside cls act hc hw]

/-- The smoothed period fits its 13 bits (43_timers.md R274, R275). -/
theorem smoothPeriod_toNat (p : Params) (q : BitVec 13) (e : BitVec 16) :
    (smoothPeriod p.toRawParams q e).toNat =
      max p.ackTimeMin (min p.ackTimeMax ((7 * q.toNat + 4 * e.toNat) / 8)) := by
  have := params_in_range p
  simp only [smoothPeriod, BitVec.toNat_ofNat]
  omega

/-- Settles O23: the period is the register's new value, whose number is the smoothed one or the old one. -/
theorem handleAckEffect : Obligations.HandleAckEffect := by
  intro a s
  refine ⟨(handleAck a s).ackPeriod, ?_, ?_⟩
  · rw [handleAck_ackPeriod, apply_ite BitVec.toNat, smoothPeriod_toNat]
  · simp only [handleAck, release, Timer.started, Timer.stop, ne_eq, ite_not]

/-! ### A frame with a valid ack number -/

/-- What the ack number of a frame has done when its type is looked at: `handleAck`, if it advances. -/
def acknowledged (a : SeqNum) (s : State) : State := if a = s.ackRx then s else handleAck a s

section
variable (a : SeqNum) (s : State)

@[simp] theorem acknowledged_ackRx : (acknowledged a s).ackRx = a := by
  unfold acknowledged
  split
  · exact Eq.symm ‹_›
  · rfl

@[simp] theorem acknowledged_rej : (acknowledged a s).rej = s.rej := by unfold acknowledged; split <;> rfl
@[simp] theorem acknowledged_retx : (acknowledged a s).retx = s.retx := by unfold acknowledged; split <;> rfl
@[simp] theorem acknowledged_nak : (acknowledged a s).nak = s.nak := by unfold acknowledged; split <;> rfl
@[simp] theorem acknowledged_ack : (acknowledged a s).ack = s.ack := by unfold acknowledged; split <;> rfl
@[simp] theorem acknowledged_frmTx : (acknowledged a s).frmTx = s.frmTx := by unfold acknowledged; split <;> rfl
@[simp] theorem acknowledged_frmReTx : (acknowledged a s).frmReTx = s.frmReTx := by unfold acknowledged; split <;> rfl
@[simp] theorem acknowledged_frmRx : (acknowledged a s).frmRx = s.frmRx := by unfold acknowledged; split <;> rfl
@[simp] theorem acknowledged_nrTimer : (acknowledged a s).nrTimer = s.nrTimer := by unfold acknowledged; split <;> rfl
@[simp] theorem acknowledged_dec : (acknowledged a s).dec = s.dec := by unfold acknowledged; split <;> rfl
@[simp] theorem acknowledged_rxFrame : (acknowledged a s).rxFrame = s.rxFrame := by unfold acknowledged; split <;> rfl

end

theorem ackBearingFrame_of_inside (cls : FrameClass) {a : SeqNum} (act : State → State) {s : State}
    (hc : s.connected = true) (hw : dist8 s.ackRx a ≤ dist8 s.ackRx s.frmTx) :
    ackBearingFrame cls a act s = act (acknowledged a s) := by
  have hin : within8 s.ackRx a s.frmTx = true := (within8_iff _ _ _).mpr hw
  simp only [ackBearingFrame, hc, hin, Bool.true_eq_false, if_false, acknowledged, ne_eq, ite_not]

theorem ackReceived_eq_received (n : Bool) (s : State) :
    ackReceived n s = received .ackReceived none { s with
      nrTimer := if n then { run := true, elapsed := 0#16 } else { run := false, elapsed := s.nrTimer.elapsed } } := rfl

/-- Settles O24: by the order of `ackBearingFrame`; `handleAck` leaves the NR timer alone. -/
theorem ackAccepted : Obligations.AckAccepted := by
  intro p n a s h3 hc hw
  rw [exec_ack_of_length p n a h3, ackBearingFrame_of_inside _ _ hc hw, ackReceived_eq_received, acknowledged_nrTimer]
  rfl

/-- The retransmission starts from `ackRx`, if anything is outstanding (42_arq_transmit.md R246). -/
theorem startRetransmission_eq (s : State) :
    startRetransmission s = { s with
      retx := if s.ackRx = s.frmTx then s.retx else true
      frmReTx := if s.ackRx = s.frmTx then s.frmReTx else s.ackRx } := by
  unfold startRetransmission
  by_cases h : s.ackRx = s.frmTx
  · rw [if_neg (not_not.mpr h), if_pos h, if_pos h]
  · rw [if_pos h, if_neg h, if_neg h]

theorem nakReceived_eq_received (n : Bool) (s : State) :
    nakReceived n s = received .nakReceived none { s with
      nrTimer := if n then { run := true, elapsed := 0#16 } else { run := false, elapsed := s.nrTimer.elapsed }
      retx := if s.ackRx = s.frmTx then s.retx else true
      frmReTx := if s.ackRx = s.frmTx then s.frmReTx else s.ackRx } := by
  rw [nakReceived, startRetransmission_eq]
  rfl

/-- Settles O25: by the order of `ackBearingFrame`; the new `ackRx` is the ack number. -/
theorem nakAccepted : Obligations.NakAccepted := by
  intro p n a s h3 hc hw u
  have hu : acknowledged a s = u := rfl
  clear_value u
  subst hu
  rw [exec_nak_of_length p n a h3, ackBearingFrame_of_inside _ _ hc hw, nakReceived_eq_received]
  simp only [acknowledged_ackRx, acknowledged_frmTx, acknowledged_retx, acknowledged_frmReTx, acknowledged_nrTimer]

/-! ### The four cases of a DATA frame (41_arq_receive.md R203 to R207) -/

theorem dataReceived_accepted {f : SeqNum} (r : Bool) {s : State} (hf : f = s.frmRx) (hd : s.dec.drop = false) :
    dataReceived f r s = received .ok (some (framePayload s.rxFrame))
      { s with frmRx := f + 1#3, rej := false, nak := false, rxHeld := true } := by
  subst hf
  simp only [dataReceived, hd, if_true, inc8, finishReceive_eq_received]

theorem dataReceived_noSpace {f : SeqNum} (r : Bool) {s : State} (hf : f = s.frmRx) (hd : s.dec.drop = true) :
    dataReceived f r s = received .noRxSpace none { s with ack := s.ack || r } := by
  simp only [dataReceived, hf, hd, if_true, Bool.true_eq_false, if_false, finishReceive_eq_received]
  cases r with
  | false => rw [Bool.or_false]; rfl
  | true => rw [Bool.or_true]; rfl

theorem dataReceived_duplicate {f : SeqNum} {s : State} (hf : f ≠ s.frmRx) :
    dataReceived f true s = received .duplicate none { s with ack := true } := by
  rw [dataReceived, if_neg hf, if_pos rfl]
  rfl

theorem dataReceived_outOfSequence {f : SeqNum} {s : State} (hf : f ≠ s.frmRx) :
    dataReceived f false s = received .outOfSequence none (rejected s) := by
  rw [dataReceived, if_neg hf, if_neg Bool.false_ne_true, reject_eq_rejected, finishReceive_eq_received]

/-- Settles O26: one lemma per case; `handleAck` writes nothing the cases look at. -/
theorem dataFourCases : Obligations.DataFourCases := by
  intro f r a s hc hw
  rw [exec_data, ackBearingFrame_of_inside _ _ hc hw]
  dsimp only
  congr 1
  by_cases hf : f = s.frmRx
  · cases hd : s.dec.drop with
    | false =>
      rw [if_pos ⟨hf, rfl⟩, dataReceived_accepted r (by simpa using hf) (by simpa using hd), acknowledged_rxFrame]
      rfl
    | true =>
      rw [if_neg (by simp), if_pos hf, dataReceived_noSpace r (by simpa using hf) (by simpa using hd), acknowledged_ack]
      rfl
  · rw [if_neg fun ⟨h, _⟩ => hf h, if_neg hf]
    cases r with
    | true => rw [if_pos rfl, dataReceived_duplicate (by simpa using hf)]; rfl
    | false => rw [if_neg Bool.false_ne_true, dataReceived_outOfSequence (by simpa using hf)]; rfl

/-! ### The reject condition (41_arq_receive.md R196, R203) -/

/-- The reject condition lasts, and no NAK is asked for or withdrawn. -/
def KeepsReject (s t : State) : Prop := t.rej = true ∧ t.nak = s.nak

/-- The reject condition ends, and a NAK not yet sent is withdrawn. -/
def EndsReject (t : State) : Prop := t.rej = false ∧ t.nak = false

/-- A codec error in the reject condition changes nothing of it. -/
theorem codecError_of_rej (st : Status) {s : State} (h : s.rej = true) : codecError st s = finishReceive st none s := by
  rw [codecError, reject_of_rej h, ite_self]

theorem exec_line_keepsReject {i : Instr} {s t : State} (hl : i.level = .line) (hrej : s.rej = true)
    (h : exec i s = .next t) : KeepsReject s t := by
  rcases exec_line_cases hl h with ⟨d, x, rfl, -⟩ | ⟨st, -, rfl⟩ | ⟨-, -, -, -, -, rfl⟩ | ⟨-, -, rfl⟩
  · exact ⟨hrej, rfl⟩
  · rw [codecError_of_rej st (s := { s with dec := decClear s.dec }) hrej]
    exact ⟨hrej, rfl⟩
  · exact ⟨hrej, rfl⟩
  · obtain ⟨d, buf, hb⟩ := dataByte_form 0xFF#8 s
    rw [hb]
    exact ⟨hrej, rfl⟩

/-- Of the DATA frames only the expected one, received into a free buffer, ends the reject condition. -/
theorem dataReceived_keeps_or_endsReject (f : SeqNum) (r : Bool) {s : State} (hrej : s.rej = true) :
    KeepsReject s (dataReceived f r s) ∨
      (EndsReject (dataReceived f r s) ∧ f = s.frmRx ∧ s.dec.drop = false ∧
        (dataReceived f r s).frmRx = s.frmRx + 1#3) := by
  rcases dataReceived_cases f r s with ⟨hf, hd, h⟩ | ⟨st, rj, nk, ak, -, hk, h⟩ <;> rw [h]
  · exact .inr ⟨⟨rfl, rfl⟩, hf, hd, rfl⟩
  · exact .inl (hk hrej)

/-- The two cases in which the ack number of a frame has been dealt with are the two of `acknowledged`. -/
theorem eq_acknowledged {a : SeqNum} {s u : State} (h : u = s ∧ a = s.ackRx ∨ u = handleAck a s ∧ a ≠ s.ackRx) :
    u = acknowledged a s := by
  rcases h with ⟨rfl, ha⟩ | ⟨rfl, ha⟩
  · exact (if_pos ha).symm
  · exact (if_neg ha).symm

theorem exec_control_keeps_or_endsReject {i : Instr} {s t : State} (hl : i.level = .control) (hrej : s.rej = true)
    (h : exec i s = .next t) :
    KeepsReject s t ∨ (EndsReject t ∧
      ((s.connected = true ∧ s.dec.drop = false ∧ ∃ r a, i = .data s.frmRx r a ∧ t.frmRx = s.frmRx + 1#3) ∨
       (t.connected = false ∧ (i = .rst ∨ (i = .error ∧ s.connected = true))))) := by
  rcases exec_control_cases hl h with ⟨hi, -, rfl⟩ | ⟨hi, -, hc, rfl⟩ | ⟨-, cls, rfl⟩ | ⟨-, st, -, rfl⟩ |
    ⟨hc, a, u, hu, -, hact⟩
  · exact .inr ⟨⟨rfl, rfl⟩, .inr ⟨rfl, .inl hi⟩⟩
  · exact .inr ⟨⟨rfl, rfl⟩, .inr ⟨rfl, .inr ⟨hi, hc⟩⟩⟩
  · obtain ⟨st, e, pe, -, hn⟩ := notConnected_form cls s
    rw [hn]
    exact .inl ⟨hrej, rfl⟩
  · rw [reject_of_rej hrej]
    exact .inl ⟨hrej, rfl⟩
  · obtain rfl := eq_acknowledged hu
    have hk : (acknowledged a s).rej = true ∧ (acknowledged a s).nak = s.nak := by simpa using hrej
    rcases hact with ⟨f, r, rfl, rfl⟩ | ⟨p, n, -, rfl⟩ | ⟨p, n, -, rfl⟩
    · rcases dataReceived_keeps_or_endsReject f r hk.1 with ⟨hr, hn⟩ | ⟨he, hf, hd, hx⟩
      · exact .inl ⟨hr, hn.trans hk.2⟩
      · rw [acknowledged_frmRx] at hf hx
        rw [acknowledged_dec] at hd
        subst hf
        exact .inr ⟨he, .inl ⟨hc, hd, r, a, rfl, hx⟩⟩
    · exact .inl hk
    · rw [nakReceived_eq_received]
      exact .inl hk

/-- Settles O28: a line byte keeps the reject condition; a received frame keeps it or ends it as the rules say. -/
theorem rejectAsksOnce : Obligations.RejectAsksOnce := by
  intro i s t h hrej
  cases hl : i.level with
  | line => exact .inl (exec_line_keepsReject hl hrej h)
  | control => exact (exec_control_keeps_or_endsReject hl hrej h).imp_right fun ⟨⟨hr, hn⟩, hc⟩ => ⟨hr, hn, hc⟩

end Sys2Proof.Laws
end

section
/-! SUPPORT. The selection and its inversion, the start of a frame written as one update, and a frame under way byte by
byte: the statements of the family 42_arq_transmit.md but for O53. -/

namespace Sys2Proof.Laws

open Sys2Proof.Machine Sys2Proof.Safety

/-! ### `housekeeping` (42_arq_transmit.md R233) -/

section
variable (s : State)

@[simp] theorem housekeeping_cfg : (housekeeping s).cfg = s.cfg := by unfold housekeeping; split <;> rfl
@[simp] theorem housekeeping_can : (housekeeping s).can = s.can := by unfold housekeeping; split <;> rfl
@[simp] theorem housekeeping_ackRx : (housekeeping s).ackRx = s.ackRx := by unfold housekeeping; split <;> rfl
@[simp] theorem housekeeping_frmTx : (housekeeping s).frmTx = s.frmTx := by unfold housekeeping; split <;> rfl
@[simp] theorem housekeeping_frmReTxHead : (housekeeping s).frmReTxHead = s.frmReTxHead := by
  unfold housekeeping; split <;> rfl
@[simp] theorem housekeeping_reTx : (housekeeping s).reTx = s.reTx := by unfold housekeeping; split <;> rfl
@[simp] theorem housekeeping_enc : (housekeeping s).enc = s.enc := by unfold housekeeping; split <;> rfl
@[simp] theorem housekeeping_lineOut : (housekeeping s).lineOut = s.lineOut := by unfold housekeeping; split <;> rfl
@[simp] theorem housekeeping_activity : (housekeeping s).activity = s.activity := by unfold housekeeping; split <;> rfl

end

theorem housekeeping_of_notRetx {s : State} (h : s.retx = false) : housekeeping s = s := by
  simp [housekeeping, h]

theorem housekeeping_of_retx {s : State} (h : s.retx = true) :
    housekeeping s = { s with
      frmReTx := if dist8 s.ackRx s.frmReTx ≤ dist8 s.ackRx s.frmTx then s.frmReTx else s.ackRx
      retx := decide
        ((if dist8 s.ackRx s.frmReTx ≤ dist8 s.ackRx s.frmTx then s.frmReTx else s.ackRx) ≠ s.frmTx) } := by
  simp only [housekeeping, h, if_true, within8_iff]

theorem dist8_injective (a : SeqNum) : Function.Injective (dist8 a) := by
  revert a
  unfold Function.Injective
  decide

/-- While a retransmission goes on after `housekeeping`, its next frame is outstanding. -/
theorem housekeeping_outstanding {s : State} (h : (housekeeping s).retx = true) :
    dist8 s.ackRx (housekeeping s).frmReTx < dist8 s.ackRx s.frmTx := by
  cases hr : s.retx with
  | false => rw [housekeeping_of_notRetx hr, hr] at h; cases h
  | true =>
    rw [housekeeping_of_retx hr] at h ⊢
    simp only [decide_eq_true_eq] at h
    have hne := (dist8_injective s.ackRx).ne h
    by_cases hw : dist8 s.ackRx s.frmReTx ≤ dist8 s.ackRx s.frmTx
    · simp only [hw, if_true] at hne ⊢
      exact Nat.lt_of_le_of_ne hw hne
    · simp only [hw, if_false, dist8_self] at hne ⊢
      exact Nat.pos_of_ne_zero hne.symm

/-- Settles O37: RETX decides which of the two forms `housekeeping` takes; the window check leaves a number inside. -/
theorem housekeepingRepairs : Obligations.HousekeepingRepairs := by
  intro s h
  refine ⟨housekeeping_of_notRetx, fun hr => ?_, fun hr => ?_⟩
  · have hform : h = _ := housekeeping_of_retx hr
    rw [hform]
    exact ⟨rfl, rfl, by simp⟩
  · simpa [h] using housekeeping_outstanding hr

/-! ### `selectNext` (42_arq_transmit.md R235) -/

theorem rebootDelayRuns_iff (s : State) :
    rebootDelayRuns s = true ↔ s.rebootTimer.run = true ∧ s.rebootTimer.elapsed.toNat < s.cfg.rebootDelay := by
  simp [rebootDelayRuns]

/-- Settles O30: the nested tests of `selectNext`, one after the other. -/
theorem selectionPriority : Obligations.SelectionPriority := by
  intro s delayed open'
  have hdelay : rebootDelayRuns s = false ↔ ¬ delayed := by
    rw [← Bool.not_eq_true, rebootDelayRuns_iff]
  unfold selectNext
  by_cases herr : s.error = true
  · simp only [herr, if_true]
  by_cases hrst : s.rstack = true ∧ ¬ delayed
  · simp [herr, hrst, hdelay.2 hrst.2]
  have hrst' : ¬ (s.rstack && !rebootDelayRuns s) = true := by simpa [hdelay] using hrst
  rw [if_neg herr, if_neg herr, if_neg hrst, if_neg hrst']
  cases hc : s.connected
  · simp
  by_cases hopen : open'
  · simp [hopen, show dist8 s.ackRx s.frmTx < s.cfg.txK from hopen]
  · simp [hopen, show ¬ dist8 s.ackRx s.frmTx < s.cfg.txK from hopen]

/-- What a selection has found in the state: the DATA selections, something to send. -/
def Grounds : Selection → State → Prop
  | .retx, s => s.retx = true
  | .dataHigh, s => s.txHigh ≠ []
  | .dataNorm, s => s.txNorm ≠ [] ∧ s.nrTimer.run = false
  | _, _ => True

theorem grounds_of_selectNext {s : State} {sel : Selection} (h : selectNext s = some sel) : Grounds sel s := by
  rw [selectionPriority s] at h
  repeat' split at h
  all_goals cases h
  all_goals simp_all [Grounds]

/-- Settles O41: the NR timer stands only in the last test of R235, the one that selects a new frame of the normal
queue. -/
theorem nrTimerHoldsBackNormalOnly : Obligations.NrTimerHoldsBackNormalOnly := by
  intro s sel h
  refine ⟨?_, fun hsel t => ?_⟩
  · rintro hrun rfl
    have hstopped : s.nrTimer.run = false := (grounds_of_selectNext h).2
    rw [hrun] at hstopped
    cases hstopped
  · rw [selectionPriority] at h ⊢
    dsimp only at h ⊢
    repeat' split at h
    all_goals simp_all

/-! ### The start of a frame (42_arq_transmit.md R237 to R244) -/

/-- The registers that the start of a frame writes besides those of R237. -/
def startRegs (sel : Selection) (s : State) : State :=
  match sel with
  | .error => { s with error := false }
  | .rstack => { s with rebootTimer := s.rebootTimer.stop }
  | .nak => { s with nak := false, ack := false, ackTx := s.frmRx }
  | .ack => { s with ack := false, ackTx := s.frmRx }
  | .retx => { s with ackTx := s.frmRx }
  | .dataHigh => { s with txSrcHigh := true, ackTx := s.frmRx }
  | .dataNorm => { s with txSrcHigh := false, ackTx := s.frmRx }

/-- `sendState` while a frame of the selection is being sent. -/
def frameState : Selection → SendState
  | .error | .rstack | .nak | .ack => .sendingShortFrame
  | .retx => .retransmittingDataFrame
  | .dataHigh | .dataNorm => .sendingDataFrame

/-- The state in which `startFrame` leaves the engine. -/
def started (sel : Selection) (s : State) : State :=
  { startRegs sel s with
    txCtl := (frameBody sel s).headD 0#8
    enc := encStart s.cfg.toRawParams (frameBody sel s)
    sendState := frameState sel }

/-- The entry that a DATA selection sends is there (20_memory.md R75, R77). -/
def EntryThere : Selection → State → Prop
  | .retx, s => dist8 s.frmReTxHead s.frmReTx < s.reTx.length
  | .dataHigh, s => s.txHigh ≠ []
  | .dataNorm, s => s.txNorm ≠ []
  | _, _ => True

theorem frameBody_retx {s : State} {p : Payload} (h : s.reTx[dist8 s.frmReTxHead s.frmReTx]? = some p) :
    frameBody .retx s = ((s.frmReTx.setWidth 8 <<< 4) ||| 0x08#8 ||| s.frmRx.setWidth 8) :: p := by
  simp [frameBody, h]

theorem frameBody_dataHigh {s : State} {p : Payload} (h : s.txHigh.head? = some p) :
    frameBody .dataHigh s = ((s.frmTx.setWidth 8 <<< 4) ||| s.frmRx.setWidth 8) :: p := by
  simp [frameBody, List.headD_eq_head?_getD, h]

theorem frameBody_dataNorm {s : State} {p : Payload} (h : s.txNorm.head? = some p) :
    frameBody .dataNorm s = ((s.frmTx.setWidth 8 <<< 4) ||| s.frmRx.setWidth 8) :: p := by
  simp [frameBody, List.headD_eq_head?_getD, h]

theorem encode_data (f : SeqNum) (r : Bool) (a : SeqNum) :
    encode (.data f r a) = (f.setWidth 8 <<< 4) ||| (if r then 0x08#8 else 0x00#8) ||| a.setWidth 8 := by
  revert f r a
  decide

theorem encode_data_first (f a : SeqNum) : encode (.data f false a) = (f.setWidth 8 <<< 4) ||| a.setWidth 8 := by
  simp [encode_data]

theorem encode_data_again (f a : SeqNum) :
    encode (.data f true a) = (f.setWidth 8 <<< 4) ||| 0x08#8 ||| a.setWidth 8 := by
  simp [encode_data]

theorem encode_ack_sent (a : SeqNum) : encode (.ack false false a) = 0x80#8 ||| a.setWidth 8 := by
  revert a
  decide

theorem encode_nak_sent (a : SeqNum) : encode (.nak false false a) = 0xA0#8 ||| a.setWidth 8 := by
  revert a
  decide

theorem beginFrame_of_done {i : Instr} {field : List Byte} {next : SendState} {s : State} (h : s.enc.phase = .done) :
    beginFrame i field next s = .ok { s with
      txCtl := encode i, enc := encStart s.cfg.toRawParams (encode i :: field), sendState := next } :=
  if_pos h

theorem startRetx_of_entry {s : State} {p : Payload} (h : s.reTx[dist8 s.frmReTxHead s.frmReTx]? = some p) :
    startRetx s =
      beginFrame (.data s.frmReTx true s.frmRx) p .retransmittingDataFrame { s with ackTx := s.frmRx } := by
  simp only [startRetx, nth, h]

theorem startData_of_head {high : Bool} {s : State} {p : Payload} {rest : List Payload}
    (h : txQueue high s = p :: rest) :
    startData high s = beginFrame (.data s.frmTx false s.frmRx) p .sendingDataFrame
      { s with txSrcHigh := high, ackTx := s.frmRx } := by
  simp only [startData, nth, h, List.getElem?_cons_zero]

/-- With the encoder idle and the entry there, the start of a frame is one update of the state. -/
theorem startFrame_eq_started {sel : Selection} {s : State} (hd : s.enc.phase = .done) (he : EntryThere sel s) :
    startFrame sel s = .ok (started sel s) := by
  cases sel with
  | error => exact beginFrame_of_done hd
  | rstack => exact beginFrame_of_done hd
  | nak =>
    have h : startFrame .nak s = .ok _ := beginFrame_of_done hd
    rw [h, encode_nak_sent]
    rfl
  | ack =>
    have h : startFrame .ack s = .ok _ := beginFrame_of_done hd
    rw [h, encode_ack_sent]
    rfl
  | retx =>
    have hp := List.getElem?_eq_getElem he
    have h : startFrame .retx s = .ok _ := (startRetx_of_entry hp).trans (beginFrame_of_done hd)
    rw [h, encode_data_again, started, frameBody_retx hp]
    rfl
  | dataHigh =>
    obtain ⟨p, rest, hq⟩ := List.exists_cons_of_ne_nil he
    have h : startFrame .dataHigh s = .ok _ := (startData_of_head (high := true) hq).trans (beginFrame_of_done hd)
    rw [h, encode_data_first, started, frameBody_dataHigh (by rw [hq]; rfl)]
    rfl
  | dataNorm =>
    obtain ⟨p, rest, hq⟩ := List.exists_cons_of_ne_nil he
    have h : startFrame .dataNorm s = .ok _ := (startData_of_head (high := false) hq).trans (beginFrame_of_done hd)
    rw [h, encode_data_first, started, frameBody_dataNorm (by rw [hq]; rfl)]
    rfl

/-- The first byte of a frame is not its last. -/
theorem encNext_encStart_phase {p : RawParams} {body : List Byte} {b : Byte} {e : Encoder}
    (h : encNext p (encStart p body) = some (b, e)) : e.phase ≠ .done := by
  cases body with
  | nil => simp [encNext, encStart] at h
  | cons c field =>
    obtain ⟨x, e', hemit, -, -, -, -, hphase⟩ := encEmit_cases c (takeBodyByte p c (encStart p (c :: field))) rfl
    have hnext : encNext p (encStart p (c :: field)) = some (encEmit c (takeBodyByte p c (encStart p (c :: field)))) :=
      encNext_body_phase rfl rfl (Nat.zero_lt_succ _)
    rw [h, hemit] at hnext
    cases hnext
    rw [hphase]
    exact takeBodyByte_phase_ne_done _ _ _

/-! ### One pass of `sendExec` with room for a byte (42_arq_transmit.md R230) -/

section
variable {s t : State} {fatal : Bool} {answers : List Bool}

/-- The state with other answers of the driver to come. -/
def withAnswers (answers : List Bool) (s : State) : State := { s with wrAnswers := answers }

theorem step_of_sent (ha : s.activity = .sending fatal) (hw : s.wrAnswers = true :: answers)
    (h : sendStep (withAnswers answers s) = .ok (.sent, t)) : step s = .next t := by
  rw [step_of_sending ha]
  rw [withAnswers] at h
  simp only [sendExecPass, hw, h]

theorem step_of_nothingToSend (ha : s.activity = .sending fatal) (hw : s.wrAnswers = true :: answers)
    (h : sendStep (withAnswers answers s) = .ok (.nothingToSend, t)) :
    step s = .next (finish (.sendExec (nothingStatus fatal)) t) := by
  rw [step_of_sending ha]
  rw [withAnswers] at h
  simp only [sendExecPass, hw, h]

theorem sendStep_of_can (h : s.can = true) : sendStep s = .ok (.sent, cancelStep s) := if_pos h

theorem sendStep_of_none (hc : s.can = false) (hs : s.sendState = .idle) (hn : selectNext (housekeeping s) = none) :
    sendStep s = .ok (.nothingToSend, housekeeping s) := by
  simp only [sendStep, hc, Bool.false_eq_true, if_false, hs, if_true, hn]

theorem sendStep_of_selected {sel : Selection} (hc : s.can = false) (hs : s.sendState = .idle)
    (hsel : selectNext (housekeeping s) = some sel) (hf : startFrame sel (housekeeping s) = .ok t) :
    sendStep s = continueFrame t := by
  simp only [sendStep, hc, Bool.false_eq_true, if_false, hs, if_true, hsel, hf]

theorem sendStep_of_sending (hc : s.can = false) (hs : s.sendState ≠ .idle) : sendStep s = continueFrame s := by
  simp only [sendStep, hc, Bool.false_eq_true, if_false, hs]

end

/-- Settles O31: `cancelStep` comes before the other tests of `sendStep`. -/
theorem cancelByteFirst : Obligations.CancelByteFirst := fun _ _ answers ha hw hcan =>
  step_of_sent ha hw (sendStep_of_can (s := withAnswers answers _) hcan)

/-! ### The steps that start a frame -/

section
variable (sel : Selection) (s : State)

@[simp] theorem started_cfg : (started sel s).cfg = s.cfg := by cases sel <;> rfl
@[simp] theorem started_can : (started sel s).can = s.can := by cases sel <;> rfl
theorem started_enc : (started sel s).enc = encStart s.cfg.toRawParams (frameBody sel s) := rfl
@[simp] theorem started_lineOut : (started sel s).lineOut = s.lineOut := by cases sel <;> rfl
@[simp] theorem started_activity : (started sel s).activity = s.activity := by cases sel <;> rfl

/-- The answers of the driver take no part in `housekeeping`. -/
theorem housekeeping_wrAnswers (answers : List Bool) :
    housekeeping (withAnswers answers s) = withAnswers answers (housekeeping s) := by
  unfold housekeeping withAnswers
  split <;> rfl

/-- The answers of the driver take no part in the start of a frame. -/
theorem started_wrAnswers (answers : List Bool) :
    started sel (withAnswers answers s) = withAnswers answers (started sel s) := by
  cases sel <;> rfl

end

section
variable {s : State} {sel : Selection}

/-- With something selected, a call of `sendStep` starts its frame and writes on it. -/
theorem sendStep_starts (answers : List Bool) (hc : s.can = false) (hs : s.sendState = .idle)
    (hd : s.enc.phase = .done) (hsel : selectNext (housekeeping s) = some sel) (he : EntryThere sel (housekeeping s)) :
    sendStep (withAnswers answers s) = continueFrame (withAnswers answers (started sel (housekeeping s))) := by
  have hd' : (housekeeping s).enc.phase = .done := by rwa [housekeeping_enc]
  rw [← started_wrAnswers]
  apply sendStep_of_selected (s := withAnswers answers s) (sel := sel) hc hs <;> rw [housekeeping_wrAnswers]
  · exact hsel
  · exact startFrame_eq_started hd' (by cases sel <;> exact he)

/-- The step that starts a frame: the registers of its start, and its first byte. -/
theorem step_starts {fatal : Bool} {answers : List Bool} {b : Byte} {e : Encoder}
    (ha : s.activity = .sending fatal) (hw : s.wrAnswers = true :: answers) (hc : s.can = false)
    (hs : s.sendState = .idle) (hd : s.enc.phase = .done) (hsel : selectNext (housekeeping s) = some sel)
    (he : EntryThere sel (housekeeping s))
    (hb : encNext s.cfg.toRawParams (encStart s.cfg.toRawParams (frameBody sel (housekeeping s))) = some (b, e)) :
    step s = .next { started sel (housekeeping s) with
      wrAnswers := answers, lineOut := s.lineOut ++ [b], enc := e } := by
  have hnext : encNext (started sel (housekeeping s)).cfg.toRawParams (started sel (housekeeping s)).enc =
      some (b, e) := by
    simpa [started_enc] using hb
  have hsent := continueFrame_of_next (s := withAnswers answers (started sel (housekeeping s))) hnext
    (encNext_encStart_phase hb)
  rw [step_of_sent ha hw ((sendStep_starts answers hc hs hd hsel he).trans hsent), writeByte, withAnswers]
  simp only [started_lineOut, housekeeping_lineOut]

end

/-- Settles O32: the step that starts a frame, at the four short selections. -/
theorem startOfShortFrames : Obligations.StartOfShortFrames := by
  intro s fatal answers sel b e ha hw hc hs hd h u starts hsel
  have hstep {body : List Byte} (hbody : frameBody sel h = body) (he : EntryThere sel h) (hb : starts body) :
      step s = .next { started sel h with wrAnswers := answers, lineOut := s.lineOut ++ [b], enc := e } :=
    step_starts ha hw hc hs hd hsel he (hbody ▸ hb)
  obtain ⟨rx, fr, hk⟩ := housekeeping_form s
  have hh : h = _ := hk
  clear_value h
  subst hh
  refine ⟨?_, ?_, ?_, ?_⟩ <;> rintro rfl hb
  all_goals exact hstep rfl trivial hb

/-- Settles O33: the step that starts a frame, at the three DATA selections. -/
theorem startOfDataFrames : Obligations.StartOfDataFrames := by
  intro s fatal answers sel payload b e ha hw hc hs hd h u starts again first hsel
  have hstep {body : List Byte} (hbody : frameBody sel h = body) (he : EntryThere sel h)
      (hb : encNext s.cfg.toRawParams (encStart s.cfg.toRawParams body) = some (b, e)) :
      step s = .next { started sel h with
        txCtl := body.headD 0#8, wrAnswers := answers, lineOut := s.lineOut ++ [b], enc := e } := by
    subst hbody
    exact step_starts ha hw hc hs hd hsel he hb
  obtain ⟨rx, fr, hk⟩ := housekeeping_form s
  have hh : h = _ := hk
  clear_value h
  subst hh
  refine ⟨?_, ?_, ?_⟩ <;> rintro rfl hp hb
  · exact hstep (frameBody_retx hp) (List.getElem?_eq_some_iff.1 hp).1 hb
  · exact hstep (frameBody_dataHigh hp) (fun hnil : s.txHigh = [] => by simp [hnil] at hp) hb
  · exact hstep (frameBody_dataNorm hp) (fun hnil : s.txNorm = [] => by simp [hnil] at hp) hb

/-! ### `sendExec` returns (46_operations.md R353) -/

theorem noRoomStatus_eq (fatal : Bool) (s : State) : noRoomStatus fatal s =
    if fatal = true then .fatalTimeouts
    else if s.can = true ∨ s.sendState ≠ .idle ∨ selectNext s ≠ none then .inProgress else .ok := by
  simp [noRoomStatus, Option.isSome_iff_ne_none, or_assoc]

theorem step_of_noRoom {s : State} {fatal : Bool} {answers : List Bool} (ha : s.activity = .sending fatal)
    (hw : s.wrAnswers = false :: answers) :
    step s = .next (finish (.sendExec (noRoomStatus fatal s)) (withAnswers answers s)) := by
  rw [step_of_sending ha, withAnswers]
  simp only [sendExecPass, hw]

theorem step_of_noAnswer {s : State} {fatal : Bool} (ha : s.activity = .sending fatal) (hw : s.wrAnswers = []) :
    step s = .next (finish (.sendExec (noRoomStatus fatal s)) s) := by
  rw [step_of_sending ha]
  unfold sendExecPass
  rw [hw]

/-- Settles O36: the three ways out of the loop of `sendExec`. -/
theorem sendExecStatuses : Obligations.SendExecStatuses := by
  intro s fatal ha returned noRoom
  have hroom : noRoomStatus fatal s = noRoom := noRoomStatus_eq fatal s
  refine ⟨fun answers hw hc hs hn => ?_, fun answers hw => ?_, fun hw => ?_⟩
  · have hk := housekeeping_wrAnswers s answers
    have hn' : selectNext (housekeeping (withAnswers answers s)) = none := by rwa [hk]
    obtain ⟨rx, fr, hform⟩ := housekeeping_form s
    rw [step_of_nothingToSend ha hw (sendStep_of_none (s := withAnswers answers s) hc hs hn'), hk, hform]
    rfl
  · rw [step_of_noRoom ha hw, hroom]
    rfl
  · rw [step_of_noAnswer ha hw, hroom]
    rfl

/-! ### The end of a frame (42_arq_transmit.md R249 to R252) -/

section
variable {s : State}

theorem completeFrame_of_rstack (hs : s.sendState = .sendingShortFrame) (hctl : s.txCtl = 0xC1#8) :
    completeFrame s = .ok (endFrame { s with rstack := false, connected := true }) := by
  simp only [completeFrame, completeShort, hs, hctl, if_true]

theorem completeFrame_of_short (hs : s.sendState = .sendingShortFrame) (hctl : s.txCtl ≠ 0xC1#8) :
    completeFrame s = .ok (endFrame s) := by
  simp only [completeFrame, completeShort, hs, hctl, if_false]

theorem completeFrame_of_retx (hs : s.sendState = .retransmittingDataFrame) :
    completeFrame s = .ok (completeRetx s) := by
  simp only [completeFrame, hs]

theorem completeFrame_of_data {p : Payload} {rest : List Payload} (hs : s.sendState = .sendingDataFrame)
    (hq : txQueue s.txSrcHigh s = p :: rest) :
    completeFrame s = .ok (endFrame { s with
      txHigh := if s.txSrcHigh then rest else s.txHigh
      txNorm := if s.txSrcHigh then s.txNorm else rest
      reTx := s.reTx ++ [p], frmTx := inc8 s.frmTx, ackTimer := s.ackTimer.startIfStopped }) := by
  simp only [completeFrame, completeData, hs, hq, enqueue]

theorem completeFrame_of_high {p : Payload} {rest : List Payload} (hs : s.sendState = .sendingDataFrame)
    (hsrc : s.txSrcHigh = true) (hq : s.txHigh = p :: rest) :
    completeFrame s = .ok (endFrame { s with
      txHigh := rest, reTx := s.reTx ++ [p], frmTx := inc8 s.frmTx, ackTimer := s.ackTimer.startIfStopped }) := by
  rw [completeFrame_of_data hs (by rw [hsrc]; exact hq)]
  simp only [hsrc, if_true]

theorem completeFrame_of_norm {p : Payload} {rest : List Payload} (hs : s.sendState = .sendingDataFrame)
    (hsrc : s.txSrcHigh = false) (hq : s.txNorm = p :: rest) :
    completeFrame s = .ok (endFrame { s with
      txNorm := rest, reTx := s.reTx ++ [p], frmTx := inc8 s.frmTx, ackTimer := s.ackTimer.startIfStopped }) := by
  rw [completeFrame_of_data hs (by rw [hsrc]; exact hq)]
  simp only [hsrc, Bool.false_eq_true, if_false]

/-- The step that writes the last byte of a frame completes it. -/
theorem step_completes {t : State} {fatal : Bool} {answers : List Bool} {b : Byte} {e : Encoder}
    (ha : s.activity = .sending fatal) (hw : s.wrAnswers = true :: answers) (hc : s.can = false)
    (hb : encNext s.cfg.toRawParams s.enc = some (b, e)) (hp : e.phase = .done) (hs : s.sendState ≠ .idle)
    (ht : completeFrame { writeByte b (withAnswers answers s) with enc := e } = .ok t) : step s = .next t :=
  step_of_sent ha hw ((sendStep_of_sending (s := withAnswers answers s) hc hs).trans
    (continueFrame_of_last (s := withAnswers answers s) hb hp ht))

end

/-- Settles O35: the last byte written, then `completeFrame` by the kind of the frame; the free values drawn for the
encoder are those of `endFrame`. -/
theorem frameCompletes : Obligations.FrameCompletes := by
  intro s fatal answers b e ha hw hc hb hp
  have hstep {t : State} (hs : s.sendState ≠ .idle)
      (ht : completeFrame { writeByte b (withAnswers answers s) with enc := e } = .ok t) : step s = .next t :=
    step_completes ha hw hc hb hp hs ht
  refine ⟨e.scrambled s.freeDraws, hp, rfl, fun hs hctl => ?_, fun hs hctl => ?_, fun p rest hs hsrc hq => ?_,
    fun p rest hs hsrc hq => ?_, fun hs => ?_⟩
  · exact hstep (by simp [hs]) (completeFrame_of_rstack hs hctl)
  · exact hstep (by simp [hs]) (completeFrame_of_short hs hctl)
  · exact hstep (by simp [hs]) (completeFrame_of_high hs hsrc hq)
  · exact hstep (by simp [hs]) (completeFrame_of_norm hs hsrc hq)
  · exact hstep (by simp [hs]) (completeFrame_of_retx hs)

/-! ### A frame under way (42_arq_transmit.md R230, R248) -/

/-- The line bytes `left` of the frame in progress are still to be written; with none left the sequencer is idle. -/
structure FrameLeft (left : List Byte) (s : State) : Prop where
  can : s.can = false
  ready : EncReady s.enc
  wire : txWire s.cfg.toRawParams s.enc = left
  idle_iff : s.sendState = .idle ↔ left = []
  entry : s.sendState = .sendingDataFrame → txQueue s.txSrcHigh s ≠ []

/-- A frame that is being sent can be completed. -/
theorem completeFrame_isOk {s : State} (hs : s.sendState ≠ .idle)
    (hq : s.sendState = .sendingDataFrame → txQueue s.txSrcHigh s ≠ []) : ∃ t, completeFrame s = .ok t := by
  cases h : s.sendState with
  | idle => exact absurd h hs
  | sendingShortFrame => exact ⟨completeShort s, by simp only [completeFrame, h]⟩
  | sendingDataFrame =>
    obtain ⟨p, rest, hq⟩ := List.exists_cons_of_ne_nil (hq h)
    exact ⟨_, completeFrame_of_data h hq⟩
  | retransmittingDataFrame => exact ⟨_, completeFrame_of_retx h⟩

/-- Nothing is left of a frame that has been completed, and `sendExec` goes on. -/
theorem completeFrame_frameLeft {s t : State} (hc : s.can = false) (hd : s.enc.phase = .done) (he : s.enc.esc = none)
    (ht : completeFrame s = .ok t) : FrameLeft [] t ∧ t.activity = s.activity := by
  have key {u : State} (hcan : u.can = false) (henc : u.enc = s.enc) : FrameLeft [] (endFrame u) := by
    have hphase : (endFrame u).enc.phase = .done := (congrArg Encoder.phase henc).trans hd
    have hesc : (endFrame u).enc.esc = none := (congrArg Encoder.esc henc).trans he
    have hready : EncReady (endFrame u).enc := ⟨fun h => (nomatch hphase.symm.trans h), fun _ => hesc⟩
    exact ⟨hcan, hready, (txWire_eq_nil_iff _ hready).2 hphase, iff_of_true rfl rfl, nofun⟩
  rcases completeFrame_cases ht with ⟨-, -, rfl⟩ | ⟨-, -, rfl⟩ | ⟨-, _, _, -, rfl⟩ | ⟨-, rfl⟩ <;>
    exact ⟨key hc rfl, rfl⟩

/-- The next call of `sendStep` writes the first of the bytes left (R149). -/
theorem continueFrame_frameLeft {s : State} {b : Byte} {left : List Byte} (h : FrameLeft (b :: left) s) :
    ∃ t, continueFrame s = .ok (.sent, t) ∧ FrameLeft left t ∧ t.lineOut = s.lineOut ++ [b] ∧
      t.activity = s.activity ∧ t.wrAnswers = s.wrAnswers := by
  have hd : s.enc.phase ≠ .done := by
    rw [Ne, ← txWire_eq_nil_iff s.cfg.toRawParams h.ready, h.wire]
    simp
  have hs : s.sendState ≠ .idle := by simp [h.idle_iff]
  obtain ⟨x, e, hnext, hwire, hready⟩ := encNext_txWire s.cfg.toRawParams h.ready hd
  rw [h.wire] at hwire
  obtain ⟨rfl, rfl⟩ := List.cons.inj hwire
  by_cases hlast : e.phase = .done
  · obtain ⟨t, ht⟩ := completeFrame_isOk (s := { writeByte b s with enc := e }) hs h.entry
    obtain ⟨hleft, hact⟩ := completeFrame_frameLeft (s := { writeByte b s with enc := e }) h.can hlast
      (hready.done_no_esc hlast) ht
    obtain ⟨-, -, hwr, hout⟩ := completeFrame_environment ht
    rw [(txWire_eq_nil_iff _ hready).2 hlast]
    exact ⟨t, continueFrame_of_last hnext hlast ht, hleft, hout, hact, hwr⟩
  · refine ⟨_, continueFrame_of_next hnext hlast, ⟨h.can, hready, rfl, ?_, h.entry⟩, rfl, rfl, rfl⟩
    rw [txWire_eq_nil_iff _ hready]
    exact iff_of_false hs hlast

/-- Inside `sendExec` with room for the bytes left, and the answers `rest` after that. -/
structure Sending (fatal : Bool) (rest : List Bool) (left : List Byte) (s : State) : Prop extends FrameLeft left s where
  activity : s.activity = .sending fatal
  room : s.wrAnswers = List.replicate left.length true ++ rest

section
variable {s : State} {fatal : Bool} {rest : List Bool} {b : Byte} {left : List Byte}

/-- One step of a frame under way: the first byte left is written. -/
theorem Sending.step (h : Sending fatal rest (b :: left) s) :
    ∃ t, Machine.step s = .next t ∧ Sending fatal rest left t ∧ t.lineOut = s.lineOut ++ [b] := by
  obtain ⟨hframe, ha, hw⟩ := h
  have hs : s.sendState ≠ .idle := by simp [hframe.idle_iff]
  let u := withAnswers (List.replicate left.length true ++ rest) s
  obtain ⟨t, ht, hleft, hout, hact, hwr⟩ := continueFrame_frameLeft (s := u) ⟨hframe.can, hframe.ready, hframe.wire,
    hframe.idle_iff, hframe.entry⟩
  have hsend : sendStep u = .ok (.sent, t) := (sendStep_of_sending (s := u) hframe.can hs).trans ht
  exact ⟨t, step_of_sent ha hw hsend, ⟨hleft, hact.trans ha, hwr⟩, hout⟩

/-- A run of a frame under way writes the bytes left in their order, one a step. -/
theorem Sending.run {left : List Byte} (k : Nat) (hk : k ≤ left.length) (h : Sending fatal rest left s) :
    ∃ t, runSteps k s = .next t ∧ Sending fatal rest (left.drop k) t ∧ t.lineOut = s.lineOut ++ left.take k := by
  induction k generalizing s left with
  | zero => exact ⟨s, rfl, h, by simp⟩
  | succ k ih =>
    obtain ⟨b, left, rfl⟩ := List.exists_cons_of_length_pos (Nat.zero_lt_of_lt hk)
    obtain ⟨u, hstep, hu, hout⟩ := h.step
    obtain ⟨t, hrun, ht, hout'⟩ := ih (Nat.le_of_succ_le_succ hk) hu
    exact ⟨t, (runSteps_succ hstep k).trans hrun, ht, by simp [hout', hout]⟩

end

theorem frameBody_ne_nil (sel : Selection) (s : State) : frameBody sel s ≠ [] := by
  cases sel <;> exact List.cons_ne_nil _ _

/-- All of a frame that has just been started is left. -/
theorem started_frameLeft {sel : Selection} {s : State} (hc : s.can = false) (he : EntryThere sel s) :
    FrameLeft (encodeFrame s.cfg.toRawParams (frameBody sel s)) (started sel s) where
  can := by rwa [started_can]
  ready := encStart_ready _ (frameBody_ne_nil sel s)
  wire := by rw [started_enc, started_cfg, txWire_encStart]
  idle_iff := by
    have hs : (started sel s).sendState ≠ .idle := by cases sel <;> exact nofun
    simp [hs, encodeFrame]
  entry := by
    cases sel with
    | dataHigh => exact fun _ => he
    | dataNorm => exact fun _ => he
    | _ => exact nofun

/-- Under the invariant the entry of a selected DATA frame is there (42_arq_transmit.md R243, R253). -/
theorem entryThere_of_selectNext {s : State} {sel : Selection} (hinv : EngineInv s)
    (h : selectNext (housekeeping s) = some sel) : EntryThere sel (housekeeping s) := by
  have hg := grounds_of_selectNext h
  cases sel with
  | retx =>
    have hlt := housekeeping_outstanding hg
    have hwin := hinv.window
    simp only [EntryThere, housekeeping_frmReTxHead, housekeeping_reTx, hwin.reTx_length, hwin.head_eq]
    exact hlt
  | dataHigh => exact hg
  | dataNorm => exact hg.1
  | _ => trivial

/-- The step that starts the selected frame writes its first byte. -/
theorem step_starts_sending {s : State} {fatal : Bool} {rest : List Bool} {sel : Selection} {b : Byte}
    {left : List Byte} (hinv : EngineInv s) (ha : s.activity = .sending fatal) (hc : s.can = false) (hs : s.sendState = .idle)
    (hsel : selectNext (housekeeping s) = some sel)
    (hwire : encodeFrame s.cfg.toRawParams (frameBody sel (housekeeping s)) = b :: left)
    (hw : s.wrAnswers = List.replicate (b :: left).length true ++ rest) :
    ∃ t, step s = .next t ∧ Sending fatal rest left t ∧ t.lineOut = s.lineOut ++ [b] := by
  have he := entryThere_of_selectNext hinv hsel
  have hd := hinv.encoder.idle_iff_done.1 hs
  have hframe := started_frameLeft (by rwa [housekeeping_can]) he
  rw [housekeeping_cfg, hwire] at hframe
  let answers := List.replicate left.length true ++ rest
  obtain ⟨t, ht, hleft, hout, hact, hwr⟩ := continueFrame_frameLeft (b := b) (left := left)
    (s := withAnswers answers (started sel (housekeeping s)))
    ⟨hframe.can, hframe.ready, hframe.wire, hframe.idle_iff, hframe.entry⟩
  have hact' : t.activity = .sending fatal := by
    rw [hact, withAnswers, started_activity, housekeeping_activity, ha]
  have hout' : t.lineOut = s.lineOut ++ [b] := by
    rw [hout, withAnswers, started_lineOut, housekeeping_lineOut]
  exact ⟨t, step_of_sent ha hw ((sendStep_starts answers hc hs hd hsel he).trans ht), ⟨hleft, hact', hwr⟩, hout'⟩

/-- Settles O34: the first step starts the frame and writes its first byte; by induction each further step writes the
next, and with the last the sequencer is idle again. -/
theorem frameGoesOutWhole : Obligations.FrameGoesOutWhole := by
  intro s fatal sel rest hinv ha hc hs hsel wire hw k hk
  obtain ⟨b, left, hwire⟩ : ∃ b left, wire = b :: left :=
    List.exists_cons_of_ne_nil (by simp [wire, encodeFrame])
  rw [hwire] at hw hk ⊢
  cases k with
  | zero => exact ⟨s, rfl, by simp, ha, hc, hw, by simp [hs]⟩
  | succ k =>
    obtain ⟨u, hstep, hu, hout⟩ := step_starts_sending hinv ha hc hs hsel hwire hw
    obtain ⟨t, hrun, ht, hout'⟩ := hu.run k (Nat.le_of_succ_le_succ hk)
    refine ⟨t, (runSteps_succ hstep k).trans hrun, by simp [hout', hout], ht.activity, ht.can, ?_, ?_⟩
    · rw [ht.room, List.length_drop, List.length_cons, Nat.add_sub_add_right]
    · rw [ht.idle_iff, List.drop_eq_nil_iff]
      simp only [List.length_cons] at hk ⊢
      omega

end Sys2Proof.Laws
end

section
/-! SUPPORT. The blindness of a step to `peerXoff`: the statement O53 of the family 42_arq_transmit.md. -/

namespace Sys2Proof.Laws

open Sys2Proof.Machine

/-! ### Nothing looks at `peerXoff` (42_arq_transmit.md R236, 70_reset_and_hazards.md R426)

The lemmas compose: the proof for a procedure follows the branches of its definition, `ite` for each test. -/

/-- The state with another `peerXoff`. -/
def withXoff (x : Bool) (s : State) : State := { s with peerXoff := x }

/-- An outcome with its next state changed. -/
def mapNext (g : State → State) : Host.Outcome State Fault Refusal → Host.Outcome State Fault Refusal
  | .next t => .next (g t)
  | .fault f => .fault f
  | .refused r => .refused r

/-- A fault, or a result with its state changed. -/
def mapState {ρ : Type} (g : State → State) : Except Fault (ρ × State) → Except Fault (ρ × State) :=
  Except.map (Prod.map id g)

/-- `f` neither reads nor writes `peerXoff`: another value of it in the argument is carried over to the result, in which
`lift` applies a change of the state. -/
def XoffBlind {α : Type} (lift : (State → State) → α → α) (f : State → α) : Prop :=
  ∀ x s, f (withXoff x s) = lift (withXoff x) (f s)

section
variable {α : Type} {lift : (State → State) → α → α}

theorem XoffBlind.comp {f : State → State} {g : State → α} (hg : XoffBlind lift g) (hf : XoffBlind id f) :
    XoffBlind lift fun s => g (f s) :=
  fun x s => (congrArg g (hf x s)).trans (hg x (f s))

theorem XoffBlind.ite {c : State → Prop} [DecidablePred c] {f g : State → α} (hf : XoffBlind lift f)
    (hg : XoffBlind lift g) (hc : ∀ x s, c (withXoff x s) = c s := by exact fun _ _ => rfl) :
    XoffBlind lift fun s => if c s then f s else g s := by
  intro x s
  simp only [hc x s, hf x s, hg x s]
  split <;> rfl

theorem XoffBlind.next {f : State → State} (hf : XoffBlind id f) : XoffBlind mapNext fun s => .next (f s) :=
  fun x s => congrArg Host.Outcome.next (hf x s)

end

/-! ### The receive side (41_arq_receive.md) -/

theorem finish_xoffBlind (r : Return) : XoffBlind id (finish r) := fun _ _ => rfl

theorem finishReceive_xoffBlind (st : Status) (p : Option Payload) : XoffBlind id (finishReceive st p) := fun _ _ => rfl

theorem reject_xoffBlind : XoffBlind id reject := .ite (fun _ _ => rfl) fun _ _ => rfl

theorem rejectedFrame_xoffBlind (st : Status) : XoffBlind id fun s => finishReceive st none (reject s) :=
  (finishReceive_xoffBlind st none).comp reject_xoffBlind

theorem codecError_xoffBlind (st : Status) : XoffBlind id (codecError st) :=
  (finishReceive_xoffBlind st none).comp (.ite reject_xoffBlind fun _ _ => rfl)

theorem notConnected_xoffBlind (cls : FrameClass) : XoffBlind id (notConnected cls) :=
  .ite (finishReceive_xoffBlind _ _) (.ite (fun _ _ => rfl) fun _ _ => rfl)

theorem invalidFrame_xoffBlind : XoffBlind id invalidFrame :=
  .ite (rejectedFrame_xoffBlind _) (notConnected_xoffBlind _)

theorem ackBearingFrame_xoffBlind {cls : FrameClass} {a : SeqNum} {act : State → State} (hact : XoffBlind id act) :
    XoffBlind id (ackBearingFrame cls a act) :=
  .ite (notConnected_xoffBlind cls)
    (.ite (rejectedFrame_xoffBlind _) (hact.comp (.ite (fun _ _ => rfl) fun _ _ => rfl)))

theorem forceAck_xoffBlind : XoffBlind id forceAck := fun _ _ => rfl

theorem dataReceived_xoffBlind (f : SeqNum) (r : Bool) : XoffBlind id (dataReceived f r) :=
  .ite
    (.ite (fun _ _ => rfl) ((finishReceive_xoffBlind _ _).comp (.ite forceAck_xoffBlind fun _ _ => rfl)))
    (.ite ((finishReceive_xoffBlind _ _).comp forceAck_xoffBlind) (rejectedFrame_xoffBlind _))

theorem startRetransmission_xoffBlind : XoffBlind id startRetransmission := .ite (fun _ _ => rfl) fun _ _ => rfl

theorem nakReceived_xoffBlind (n : Bool) : XoffBlind id (nakReceived n) :=
  (finishReceive_xoffBlind _ _).comp (startRetransmission_xoffBlind.comp (f := nrUpdate n) fun _ _ => rfl)

theorem dataByte_xoffBlind (b : Byte) : XoffBlind id (dataByte b) :=
  .ite (fun _ _ => rfl) (.ite (fun _ _ => rfl) fun _ _ => rfl)

theorem execFlag_xoffBlind : XoffBlind mapNext execFlag := by
  have rejected (st : Status) : XoffBlind id fun s => codecError st { s with dec := decClear s.dec } :=
    (codecError_xoffBlind st).comp fun _ _ => rfl
  exact .ite (.next (rejected _)) (.ite (.next fun _ _ => rfl) (.ite (.next (rejected _))
    (.ite (.next (rejected _)) (.ite (.next (rejected _)) (.next fun _ _ => rfl)))))

/-- Of the instructions only XON and XOFF have to do with `peerXoff` (40_codec.md R163, R164). -/
theorem exec_xoffBlind {i : Instr} (hon : i ≠ .xon) (hoff : i ≠ .xoff) : XoffBlind mapNext (exec i) := by
  have invalid : XoffBlind mapNext fun s => .next (invalidFrame s) := .next invalidFrame_xoffBlind
  cases i with
  | data f r a => exact .ite (.next (ackBearingFrame_xoffBlind (dataReceived_xoffBlind f r))) invalid
  | ack p n a => exact .ite (.next (ackBearingFrame_xoffBlind (act := ackReceived n) fun _ _ => rfl)) invalid
  | nak p n a => exact .ite (.next (ackBearingFrame_xoffBlind (nakReceived_xoffBlind n))) invalid
  | rst => exact .ite (.next fun _ _ => rfl) invalid
  | rstack => exact invalid
  | error => exact .ite (.ite (.next fun _ _ => rfl) (.next (notConnected_xoffBlind _))) invalid
  | flag => exact execFlag_xoffBlind
  | escape => exact .next fun _ _ => rfl
  | xon => exact absurd rfl hon
  | xoff => exact absurd rfl hoff
  | substitute => exact .next fun _ _ => rfl
  | cancel => exact .ite (.next ((codecError_xoffBlind _).comp fun _ _ => rfl)) (.next fun _ _ => rfl)
  | wake => exact .ite (.next (dataByte_xoffBlind _)) (.next fun _ _ => rfl)

/-! ### The operations and the other events (46_operations.md) -/

theorem send_xoffBlind (payload : Payload) (high : Bool) : XoffBlind id (send payload high) :=
  .ite (finish_xoffBlind _) (.ite (finish_xoffBlind _) (.ite (finish_xoffBlind _)
    (.ite (fun _ _ => rfl) fun _ _ => rfl)))

theorem rxRelease_xoffBlind : XoffBlind id rxRelease := .ite (fun _ _ => rfl) fun _ _ => rfl

theorem pollNr_xoffBlind : XoffBlind id pollNr := .ite (fun _ _ => rfl) fun _ _ => rfl

theorem pollAck_xoffBlind : XoffBlind (Prod.map id) pollAck := by
  refine .ite (.ite (.ite (fun _ _ => rfl) fun x s => ?_) fun _ _ => rfl) fun _ _ => rfl
  have timedOut : XoffBlind id fun s => startRetransmission { s with
      ackPeriod := backoffPeriod s.cfg.toRawParams s.ackPeriod, timeouts := s.timeouts + 1#8 } :=
    startRetransmission_xoffBlind.comp fun _ _ => rfl
  have stopped : XoffBlind id fun s => { s with ackTimer := s.ackTimer.stop } := fun _ _ => rfl
  exact congrArg (Prod.mk false) ((stopped.comp timedOut) x s)

theorem beginSendExec_xoffBlind : XoffBlind id beginSendExec := by
  intro x s
  have hpoll : pollTimers (withXoff x s) = Prod.map id (withXoff x) (pollTimers s) :=
    pollAck_xoffBlind.comp pollNr_xoffBlind x s
  unfold beginSendExec
  rw [hpoll]
  rfl

theorem runEvent_xoffBlind {e : Event} (he : e ≠ .hwReset) : XoffBlind id (runEvent e) := by
  cases e with
  | send payload high => exact send_xoffBlind payload high
  | sendExec => exact beginSendExec_xoffBlind
  | rxRelease => exact (finish_xoffBlind _).comp rxRelease_xoffBlind
  | hwReset => exact absurd rfl he
  | _ => exact fun _ _ => rfl

/-! ### The transmit sequencer (42_arq_transmit.md) -/

theorem housekeeping_xoffBlind : XoffBlind id housekeeping := .ite (fun _ _ => rfl) fun _ _ => rfl

theorem beginFrame_xoffBlind (i : Instr) (field : List Byte) (next : SendState) :
    XoffBlind Except.map (beginFrame i field next) := .ite (fun _ _ => rfl) fun _ _ => rfl

theorem startRetx_xoffBlind : XoffBlind Except.map startRetx := by
  intro x s
  have hq : nth (withXoff x s).reTx (dist8 (withXoff x s).frmReTxHead (withXoff x s).frmReTx) =
    nth s.reTx (dist8 s.frmReTxHead s.frmReTx) := rfl
  unfold startRetx
  rw [hq]
  split
  · rfl
  · exact beginFrame_xoffBlind _ _ _ x { s with ackTx := s.frmRx }

theorem startData_xoffBlind (high : Bool) : XoffBlind Except.map (startData high) := by
  intro x s
  have hq : txQueue high (withXoff x s) = txQueue high s := rfl
  unfold startData
  rw [hq]
  split
  · rfl
  · exact beginFrame_xoffBlind _ _ _ x { s with txSrcHigh := high, ackTx := s.frmRx }

theorem startFrame_xoffBlind (sel : Selection) : XoffBlind Except.map (startFrame sel) := by
  intro x s
  cases sel with
  | error => exact beginFrame_xoffBlind _ _ _ x { s with error := false }
  | rstack => exact beginFrame_xoffBlind _ _ _ x { s with rebootTimer := s.rebootTimer.stop }
  | nak => exact beginFrame_xoffBlind _ _ _ x { s with nak := false, ack := false, ackTx := s.frmRx }
  | ack => exact beginFrame_xoffBlind _ _ _ x { s with ack := false, ackTx := s.frmRx }
  | retx => exact startRetx_xoffBlind x s
  | dataHigh => exact startData_xoffBlind true x s
  | dataNorm => exact startData_xoffBlind false x s

theorem completeFrame_xoffBlind : XoffBlind Except.map completeFrame := by
  intro x s
  have hs : (withXoff x s).sendState = s.sendState := rfl
  have hq : txQueue (withXoff x s).txSrcHigh (withXoff x s) = txQueue s.txSrcHigh s := rfl
  unfold completeFrame
  rw [hs]
  split
  · rfl
  · have hshort : XoffBlind id completeShort :=
      .comp (g := endFrame) (fun _ _ => rfl) (.ite (fun _ _ => rfl) fun _ _ => rfl)
    exact congrArg Except.ok (hshort x s)
  · unfold completeData
    rw [hq]
    split <;> rfl
  · rfl

theorem continueFrame_xoffBlind : XoffBlind mapState continueFrame := by
  intro x s
  have he : encNext (withXoff x s).cfg.toRawParams (withXoff x s).enc = encNext s.cfg.toRawParams s.enc := rfl
  unfold continueFrame
  rw [he]
  split
  · rfl
  · rename_i b e _
    dsimp only
    split
    · have hc := completeFrame_xoffBlind x { writeByte b s with enc := e }
      have hw : completeFrame { writeByte b (withXoff x s) with enc := e } = _ := hc
      rw [hw]
      cases completeFrame { writeByte b s with enc := e } <;> rfl
    · rfl

theorem sendStep_xoffBlind : XoffBlind mapState sendStep := by
  refine .ite (fun _ _ => rfl) (.ite (fun x s => ?_) continueFrame_xoffBlind)
  have hsel : selectNext (withXoff x (housekeeping s)) = selectNext (housekeeping s) := rfl
  simp only [housekeeping_xoffBlind x s, id, hsel]
  split
  · rfl
  · rename_i sel _
    simp only [startFrame_xoffBlind sel x (housekeeping s)]
    cases startFrame sel (housekeeping s) with
    | error f => rfl
    | ok t => exact continueFrame_xoffBlind x t

theorem sendExecPass_xoffBlind (fatal : Bool) : XoffBlind mapNext (sendExecPass fatal) := by
  intro x s
  have hw : (withXoff x s).wrAnswers = s.wrAnswers := rfl
  unfold sendExecPass
  rw [hw]
  split
  · rename_i answers _
    have hs := sendStep_xoffBlind x { s with wrAnswers := answers }
    have hs' : sendStep { withXoff x s with wrAnswers := answers } = _ := hs
    rw [hs']
    rcases sendStep { s with wrAnswers := answers } with f | ⟨_ | _, t⟩ <;> rfl
  · rfl
  · rfl

/-! ### The step -/

theorem step_withXoff (x : Bool) {s : State} (hreset : ∀ rest, s.activity = .idle → s.script ≠ .hwReset :: rest)
    (hsignal : ∀ b rest, s.activity = .receiving → s.lineIn = b :: rest → b ≠ 0x11#8 ∧ b ≠ 0x13#8) :
    step (withXoff x s) = mapNext (withXoff x) (step s) := by
  cases ha : s.activity with
  | idle =>
    rw [step_of_idle ha, step_of_idle (s := withXoff x s) ha]
    have hscript : (withXoff x s).script = s.script := rfl
    unfold nextEvent
    rw [hscript]
    cases he : s.script with
    | nil => rfl
    | cons e rest =>
      have hne : e ≠ .hwReset := fun h => hreset rest ha (h ▸ he)
      exact (runEvent_xoffBlind hne).next x { s with script := rest }
  | receiving =>
    cases hl : s.lineIn with
    | nil =>
      rw [step_of_noByte ha hl, step_of_noByte (s := withXoff x s) ha hl]
      rfl
    | cons b rest =>
      rcases hd : decodeLine b with e | i
      · rw [step_of_dataByte ha hl hd, step_of_dataByte (s := withXoff x s) ha hl hd]
        exact (dataByte_xoffBlind b).next x { s with lineIn := rest }
      · obtain ⟨h11, h13⟩ := hsignal b rest ha hl
        have hb := encode_of_decodeLine hd
        have hon : i ≠ .xon := fun h => h11 (h ▸ hb).symm
        have hoff : i ≠ .xoff := fun h => h13 (h ▸ hb).symm
        rw [step_of_lineInstr ha hl hd, step_of_lineInstr (s := withXoff x s) ha hl hd]
        exact exec_xoffBlind hon hoff x { s with lineIn := rest }
  | frameEnd =>
    cases hf : s.rxFrame with
    | nil =>
      rw [step_of_noFrame ha hf, step_of_noFrame (s := withXoff x s) ha hf]
      rfl
    | cons c rest =>
      rcases hd : decodeControl c with e | i
      · rw [step_of_unassigned ha hf hd, step_of_unassigned (s := withXoff x s) ha hf hd]
        exact invalidFrame_xoffBlind.next x s
      · have hl := decodeControl_level hd
        have hon : i ≠ .xon := by rintro rfl; cases hl
        have hoff : i ≠ .xoff := by rintro rfl; cases hl
        rw [step_of_frameInstr ha hf hd, step_of_frameInstr (s := withXoff x s) ha hf hd]
        exact exec_xoffBlind hon hoff x s
  | sending fatal =>
    rw [step_of_sending ha, step_of_sending (s := withXoff x s) ha]
    exact sendExecPass_xoffBlind fatal x s

/-- Settles O53: the step carries any value of `peerXoff` over unread; the value it has is one of them. -/
theorem peerXoffGatesNothing : Obligations.PeerXoffGatesNothing := by
  intro s t x h hreset hsignal
  have carried (y : Bool) : step (withXoff y s) = .next (withXoff y t) := by
    rw [step_withXoff y hreset hsignal, h]
    rfl
  have hsame : t = withXoff s.peerXoff t := Host.Outcome.next.inj (h.symm.trans (carried s.peerXoff))
  exact ⟨(congrArg State.peerXoff hsame).trans rfl, carried x⟩

end Sys2Proof.Laws
end

section
/-! SUPPORT. The timers under the clock and under `pollTimers`: the statements O39 and O40 of the family 43_timers.md. -/

namespace Sys2Proof.Machine

/-! ### The clock (43_timers.md R270) -/

section
variable {t u : Timer}

theorem Timer.eq_of_elapsed_toNat_eq (hr : t.run = u.run) (he : t.elapsed.toNat = u.elapsed.toNat) : t = u := by
  cases t
  cases u
  rw [Timer.mk.injEq]
  exact ⟨hr, BitVec.eq_of_toNat_eq he⟩

theorem Timer.advance_of_stopped (d : Nat) (h : t.run = false) : t.advance d = t := by
  rw [Timer.advance, h, if_neg Bool.false_ne_true]

@[simp] theorem Timer.advance_run (d : Nat) : (t.advance d).run = t.run := by unfold Timer.advance; split <;> rfl

theorem Timer.advance_elapsed (d : Nat) : (t.advance d).elapsed.toNat =
    if t.run then min 65535 (t.elapsed.toNat + d) else t.elapsed.toNat := by
  unfold Timer.advance
  split
  · simp only [BitVec.toNat_ofNat]
    omega
  · rfl

theorem Timer.advance_zero : t.advance 0 = t := by
  refine Timer.eq_of_elapsed_toNat_eq (Timer.advance_run 0) ?_
  have := t.elapsed.isLt
  rw [Timer.advance_elapsed]
  split <;> omega

/-- Saturation lasts: what the first advance cuts off, the second cuts off as well. -/
theorem Timer.advance_advance (a b : Nat) : (t.advance a).advance b = t.advance (a + b) := by
  refine Timer.eq_of_elapsed_toNat_eq (by simp) ?_
  simp only [Timer.advance_elapsed, Timer.advance_run]
  split <;> omega

theorem Timer.expired_iff (period : Nat) : t.expired period = true ↔ t.run = true ∧ period ≤ t.elapsed.toNat := by
  simp [Timer.expired]

end

end Sys2Proof.Machine

namespace Sys2Proof.Laws

open Sys2Proof.Machine Sys2Proof.Safety

/-! ### `tick` -/

theorem step_of_event {s : State} {e : Event} {rest : List Event} (ha : s.activity = .idle)
    (hs : s.script = e :: rest) : step s = .next (runEvent e { s with script := rest }) := by
  rw [step_of_idle ha, nextEvent, hs]

/-- Settles O39: `tick` is `advance` on each of the three timers. -/
theorem tickAdvances : Obligations.TickAdvances := by
  refine ⟨fun s d rest ha hs => ?_, fun s => ?_, fun s a b => ?_⟩
  · refine ⟨s.ackTimer.advance d, s.nrTimer.advance d, s.rebootTimer.advance d, step_of_event ha hs, ?_⟩
    simp [Timer.advance_elapsed]
  · simp only [tick, Timer.advance_zero]
  · simp only [tick, Timer.advance_advance]

/-! ### Polling (43_timers.md R273, R276, R278) -/

theorem backoffPeriod_toNat (p : Params) (q : BitVec 13) :
    (backoffPeriod p.toRawParams q).toNat = min (2 * q.toNat) p.ackTimeMax := by
  have := params_in_range p
  simp only [backoffPeriod, BitVec.toNat_ofNat]
  omega

theorem startRetransmission_of_outstanding {s : State} (h : s.ackRx ≠ s.frmTx) :
    startRetransmission s = { s with retx := true, frmReTx := s.ackRx } := if_pos h

section
variable {s : State}

theorem pollAck_of_running (h : ¬ s.ackTimer.expired s.ackPeriod.toNat = true) : pollAck s = (false, s) := if_neg h

theorem pollAck_of_nothingOutstanding (he : s.ackTimer.expired s.ackPeriod.toNat = true)
    (ho : ¬ (s.connected = true ∧ s.ackRx ≠ s.frmTx)) :
    pollAck s = (false, { s with ackTimer := s.ackTimer.stop }) := by
  rw [pollAck, if_pos he, if_neg ho]

/-- The state after a timeout that counts: the period doubled, the count one up (R273, R276). -/
def timedOut (s : State) : State :=
  { s with ackPeriod := backoffPeriod s.cfg.toRawParams s.ackPeriod, timeouts := s.timeouts + 1#8 }

theorem pollAck_of_retry (he : s.ackTimer.expired s.ackPeriod.toNat = true) (hc : s.connected = true)
    (ho : s.ackRx ≠ s.frmTx) (hb : (timedOut s).timeouts.toNat ≤ s.cfg.maxTimeouts) :
    pollAck s = (false, { timedOut s with retx := true, frmReTx := s.ackRx, ackTimer := s.ackTimer.stop }) := by
  have hr := startRetransmission_of_outstanding (s := timedOut s) ho
  rw [pollAck, if_pos he, if_pos ⟨hc, ho⟩]
  unfold timedOut at hb hr ⊢
  rw [if_neg (Nat.not_lt.mpr hb), hr]

theorem pollAck_of_fatal (he : s.ackTimer.expired s.ackPeriod.toNat = true) (hc : s.connected = true)
    (ho : s.ackRx ≠ s.frmTx) (hb : s.cfg.maxTimeouts < (timedOut s).timeouts.toNat) :
    pollAck s = (true, linkDown s.cfg.errcTimeouts true (timedOut s)) := by
  rw [pollAck, if_pos he, if_pos ⟨hc, ho⟩]
  exact if_pos hb

end

/-- Under the budget the count does not wrap (43_timers.md R282). -/
theorem timedOut_timeouts {s : State} (h : TimersOk s) : (timedOut s).timeouts.toNat = s.timeouts.toNat + 1 := by
  have := params_in_range s.cfg
  have := h.budget
  simp only [timedOut, BitVec.toNat_add, BitVec.toNat_ofNat]
  omega

/-- Settles O40: the NR part is one test; the ACK part goes through the four cases of `pollAck`. -/
theorem pollTimersEffect : Obligations.PollTimersEffect := by
  intro s rest hok ha hs nr u stopped
  have hnr : pollNr { s with script := rest } = u := by
    simp only [pollNr, Timer.expired_iff, u, nr]
    split <;> rfl
  have hstep {fatal : Bool} {t : State} (h : pollAck u = (fatal, t)) :
      step s = .next { t with activity := .sending fatal } := by
    rw [step_of_event ha hs, runEvent, beginSendExec, pollTimers, hnr, h]
  have hexp : u.ackTimer.expired u.ackPeriod.toNat = true ↔
      s.ackTimer.run = true ∧ s.ackPeriod.toNat ≤ s.ackTimer.elapsed.toNat := Timer.expired_iff _
  have hcount : (timedOut u).timeouts.toNat = s.timeouts.toNat + 1 := timedOut_timeouts (s := u) { hok with }
  refine ⟨(timedOut u).ackPeriod, backoffPeriod_toNat s.cfg s.ackPeriod, ?_⟩
  by_cases he : s.ackTimer.run = true ∧ s.ackPeriod.toNat ≤ s.ackTimer.elapsed.toNat
  swap
  · rw [if_pos he, hstep (pollAck_of_running (hexp.not.mpr he))]
  rw [if_neg (not_not.mpr he)]
  by_cases ho : s.connected = true ∧ s.ackRx ≠ s.frmTx
  swap
  · rw [if_pos ho, hstep (pollAck_of_nothingOutstanding (hexp.mpr he) ho)]
    rfl
  rw [if_neg (not_not.mpr ho)]
  obtain ⟨hc, ho⟩ := ho
  by_cases hb : s.timeouts.toNat + 1 ≤ s.cfg.maxTimeouts
  · rw [if_pos hb, hstep (pollAck_of_retry (hexp.mpr he) hc ho (hcount.trans_le hb))]
    rfl
  · rw [if_neg hb, hstep (pollAck_of_fatal (hexp.mpr he) hc ho (hcount ▸ Nat.lt_of_not_le hb))]
    rfl

end Sys2Proof.Laws
end

section
/-! SUPPORT. The invariant of the reachable states in two halves, the link and the reception, and what keeps each. -/

namespace Sys2Proof.Safety

open Sys2Proof.Machine Sys2Proof.Laws

/-! ### The link's half of the invariant -/

/-- The groups of `EngineInv` that speak of the connection; the other two speak of the reception. -/
structure LinkOk (s : State) : Prop where
  flags : FlagsOk s
  encoder : EncoderOk s
  window : WindowOk s
  queues : QueuesOk s
  sending : SendingOk s
  timers : TimersOk s
  quiet : QuietOk s

theorem EngineInv.link {s : State} (h : EngineInv s) : LinkOk s := { h with }

theorem LinkOk.engineInv {s : State} (h : LinkOk s) (hd : DecoderOk s) (hf : FrameOk s) : EngineInv s :=
  { h with decoder := hd, frame := hf }

/-- From `s` to `t` the registers stay that `LinkOk` reads outside `FlagsOk` and `QuietOk`; an update of other fields
shows it by `rfl`. -/
def KeepsLink (s t : State) : Prop :=
  t = { t with
    cfg := s.cfg, connected := s.connected, rstack := s.rstack, sendState := s.sendState, enc := s.enc
    ackRx := s.ackRx, frmTx := s.frmTx, frmReTxHead := s.frmReTxHead, timeouts := s.timeouts, ackPeriod := s.ackPeriod
    txCtl := s.txCtl, txSrcHigh := s.txSrcHigh, txHigh := s.txHigh, txNorm := s.txNorm, reTx := s.reTx }

section
variable {s t : State}

theorem LinkOk.of_kept (h : LinkOk s) (hk : KeepsLink s t) (hf : FlagsOk t) (hq : QuietOk t) : LinkOk t where
  flags := hf
  encoder := by rw [hk]; exact { h.encoder with }
  window := by rw [hk]; exact { h.window with }
  queues := by rw [hk]; exact { h.queues with }
  sending := by rw [hk]; exact { h.sending with }
  timers := by rw [hk]; exact { h.timers with }
  quiet := hq

/-- While Connected the link is under no rule of rest. -/
theorem QuietOk.of_connected (hc : t.connected = true) : QuietOk t := by
  have key {P : Prop} (h : t.connected = false) : P := by rw [hc] at h; cases h
  exact ⟨key, key, key, key⟩

theorem EncoderOk.of_idle (hs : t.sendState = .idle) (hp : t.enc.phase = .done) (he : t.enc.esc = none) : EncoderOk t where
  idle_iff_done := iff_of_true hs hp
  done_no_esc := fun _ => he
  body_left := fun h => by rw [hp] at h; cases h

theorem SendingOk.of_idle (hs : t.sendState = .idle) : SendingOk t := by
  constructor <;> (intro h; rw [hs] at h; cases h)

theorem SendingOk.of_short (hs : t.sendState = .sendingShortFrame) (ho : t.txCtl = 0xC1#8 → t.rstack = true) :
    SendingOk t where
  rstack_owed := fun _ => ho
  data_connected := fun h => by rw [hs] at h; cases h
  retx_connected := fun h => by rw [hs] at h; cases h
  data_window := fun h => by rw [hs] at h; cases h
  data_head := fun h => by rw [hs] at h; cases h
  data_number := fun h => by rw [hs] at h; cases h

/-! ### The reception's half -/

theorem DecoderOk.of_betweenFrames (hd : betweenFrames t.dec) (hb : t.rxBuf.length = t.cfg.maxDataLen) :
    DecoderOk t := by
  obtain ⟨hframe, -, -, hovf⟩ := hd
  constructor <;> simp [hframe, hovf, hb]

/-- With no frame between the codec and `processFrame` there is nothing to say of one. -/
theorem FrameOk.of_noFrame (ha : t.activity ≠ .frameEnd) (hf : t.rxFrame = []) : FrameOk t := by
  have key {P : Prop} (h : t.activity = .frameEnd) : P := absurd h ha
  exact ⟨fun _ => hf, key, key, key, key, key, key⟩

/-- From `s` to `t` the registers stay that the reception's half reads. -/
structure KeepsReception (s t : State) : Prop where
  cfg : t.cfg = s.cfg
  dec : t.dec = s.dec
  rxBuf : t.rxBuf = s.rxBuf
  rxHeld : t.rxHeld = s.rxHeld
  activity : t.activity = s.activity
  rxFrame : t.rxFrame = s.rxFrame

theorem DecoderOk.of_kept (h : DecoderOk s) (hk : KeepsReception s t) : DecoderOk t := by
  constructor <;> simp only [hk.cfg, hk.dec, hk.rxBuf, hk.rxHeld]
  · exact h.frame_len
  · exact h.ovf_full
  · exact h.buf_len
  · exact h.held_drop
  · exact h.buf_payload

theorem FrameOk.of_kept (h : FrameOk s) (hk : KeepsReception s t) : FrameOk t := by
  constructor <;> simp only [hk.cfg, hk.dec, hk.rxBuf, hk.rxHeld, hk.activity, hk.rxFrame]
  · exact h.none_else
  · exact h.decoder_clear
  · exact h.length_low
  · exact h.length_high
  · exact h.crc
  · exact h.held_drop
  · exact h.buf_payload

/-! ### Updates in every operation -/

/-- The environment and the script are outside the invariant. -/
theorem EngineInv.withInputs (h : EngineInv s) (bytes : List Byte) (answers : List Bool) (reason : ResetReason)
    (events : List Event) :
    EngineInv { s with lineIn := bytes, wrAnswers := answers, resetReasonIn := reason, script := events } :=
  LinkOk.engineInv (h.link.of_kept rfl { h.flags with } { h.quiet with }) { h.decoder with } { h.frame with }

theorem LinkOk.finish (h : LinkOk s) (r : Return) : LinkOk (finish r s) :=
  h.of_kept rfl { h.flags with } { h.quiet with }

theorem EngineInv.finish (h : EngineInv s) (r : Return) : EngineInv (finish r s) :=
  (h.link.finish r).engineInv { h.decoder with } (.of_noFrame nofun rfl)

/-- The link at the start of a connection, not Connected: what the link resets leave (45_connection.md R324). -/
theorem linkOk_start (s : State) (e : Encoder) (rs er : Bool) (hp : e.phase = .done) (he : e.esc = none)
    (hf : rs = true → er = false) :
    LinkOk { initLink s with connected := false, rstack := rs, error := er, enc := e } where
  flags := ⟨nofun, nofun, hf⟩
  encoder := .of_idle rfl hp he
  window := ⟨rfl, (dist8_self 0#3).symm, (dist8_self 0#3).trans_le (Nat.zero_le _)⟩
  queues := ⟨Nat.zero_le _, nofun, nofun, nofun⟩
  sending := .of_idle rfl
  timers := by
    obtain ⟨-, -, -, hlow, hhigh, -⟩ := params_in_range s.cfg
    have hinit := ackTimeInit_fits s.cfg
    exact ⟨hlow.trans_eq hinit.symm, hinit.trans_le hhigh, Nat.zero_le _⟩
  quiet := ⟨fun _ => ⟨rfl, rfl, rfl, rfl⟩, fun _ => ⟨rfl, rfl, rfl, rfl, rfl, rfl⟩,
    fun _ => ⟨rfl, ackTimeInit_fits s.cfg, rfl, rfl⟩, fun _ => ⟨rfl, rfl, rfl⟩⟩

theorem linkOk_reinitOnRst (s : State) : LinkOk (reinitOnRst s) :=
  have h := linkOk_start s { s.enc with phase := .done, esc := none } true false rfl rfl fun _ => rfl
  h.of_kept rfl { h.flags with } { h.quiet with }

theorem linkOk_linkDown (code : Byte) (sendError : Bool) (s : State) : LinkOk (linkDown code sendError s) :=
  have h := linkOk_start s { s.enc with phase := .done, esc := none } false sendError rfl rfl nofun
  h.of_kept rfl { h.flags with } { h.quiet with }

theorem linkOk_hwReset (s : State) : LinkOk (hwReset s) :=
  have h := linkOk_start s (hwReset s).enc false false rfl rfl nofun
  h.of_kept rfl { h.flags with } { h.quiet with }

end

end Sys2Proof.Safety
end

section
/-! SUPPORT. The invariant under received frames and line bytes. -/

namespace Sys2Proof.Safety

open Sys2Proof.Machine Sys2Proof.Laws

section
variable {s t : State}

/-! ### Frames that are turned away -/

theorem LinkOk.reject (h : LinkOk s) (hc : s.connected = true) : LinkOk (reject s) := by
  rw [reject_form]
  exact h.of_kept rfl { h.flags with } (.of_connected hc)

theorem LinkOk.codecError (h : LinkOk s) (st : Status) : LinkOk (codecError st s) := by
  unfold Machine.codecError
  split
  · next hc => exact (h.reject hc.1).finish _
  · exact h.finish _

/-- Not Connected, an ERROR frame is owed only where no RSTACK is (41_arq_receive.md R193). -/
theorem LinkOk.notConnected (h : LinkOk s) (hc : s.connected = false) (cls : FrameClass) :
    LinkOk (notConnected cls s) := by
  unfold Machine.notConnected
  split
  · exact h.finish _
  · next hr =>
    split
    · exact h.of_kept rfl { h.flags with } { h.quiet with }
    · have absent {P : Prop} (hx : s.connected = true) : P := by rw [hc] at hx; cases hx
      exact h.of_kept rfl ⟨absent, absent, fun hx => absurd hx hr⟩ { h.quiet with }

/-! ### Frames with a valid ack number -/

/-- An ack number inside the window moves its start, and the entries it passes leave the queue (R199). -/
theorem WindowOk.handleAck (h : WindowOk s) {a : SeqNum} (hin : dist8 s.ackRx a ≤ dist8 s.ackRx s.frmTx) :
    WindowOk (handleAck a s) := by
  have hdist := dist8_of_inside _ _ _ hin
  have hlen : s.reTx.length = dist8 s.ackRx s.frmTx := h.head_eq ▸ h.reTx_length
  constructor
  · rfl
  · simp only [handleAck_reTx, release, List.length_drop, hlen, handleAck_frmReTxHead, handleAck_frmTx, hdist]
  · simp only [handleAck_ackRx, handleAck_frmTx, handleAck_cfg, hdist]
    exact (Nat.sub_le _ _).trans h.window

theorem QueuesOk.handleAck (h : QueuesOk s) (a : SeqNum) : QueuesOk (handleAck a s) where
  slots := by
    have := h.slots
    simp only [slotsUsed, handleAck_txHigh, handleAck_txNorm, handleAck_reTx, release, List.length_drop,
      handleAck_cfg] at this ⊢
    omega
  high_len := h.high_len
  norm_len := h.norm_len
  reTx_len := fun p hp => h.reTx_len p (List.mem_of_mem_drop hp)

/-- The period is smoothed or kept (R274, R275), and the count starts again. -/
theorem TimersOk.handleAck (h : TimersOk s) (a : SeqNum) : TimersOk (handleAck a s) := by
  have hb : s.cfg.ackTimeMin ≤ (Machine.handleAck a s).ackPeriod.toNat ∧
      (Machine.handleAck a s).ackPeriod.toNat ≤ s.cfg.ackTimeMax := by
    rw [handleAck_ackPeriod]
    split
    · exact smoothPeriod_bounds _ _ _
    · exact ⟨h.period_low, h.period_high⟩
  exact ⟨hb.1, hb.2, Nat.zero_le _⟩

theorem LinkOk.handleAck (h : LinkOk s) {a : SeqNum} (hc : s.connected = true)
    (hw : within8 s.ackRx a s.frmTx = true) : LinkOk (handleAck a s) where
  flags := { h.flags with }
  encoder := { h.encoder with }
  window := h.window.handleAck ((within8_iff _ _ _).mp hw)
  queues := h.queues.handleAck a
  sending :=
    { h.sending with
      data_window := fun hs => by
        simp only [handleAck_ackRx, handleAck_frmTx, handleAck_cfg, dist8_of_inside _ _ _ ((within8_iff _ _ _).mp hw)]
        exact (Nat.sub_le _ _).trans_lt (h.sending.data_window hs) }
  timers := h.timers.handleAck a
  quiet := .of_connected hc

theorem LinkOk.dataReceived (h : LinkOk s) (hc : s.connected = true) (f : SeqNum) (r : Bool) :
    LinkOk (dataReceived f r s) := by
  rcases dataReceived_cases f r s with ⟨-, -, hd⟩ | ⟨st, rj, nk, ak, -, -, hd⟩ <;> rw [hd] <;>
    exact h.of_kept rfl { h.flags with } (.of_connected hc)

theorem LinkOk.nakReceived (h : LinkOk s) (hc : s.connected = true) (n : Bool) : LinkOk (nakReceived n s) := by
  obtain ⟨nr, rx, fr, hn⟩ := nakReceived_form n s
  rw [hn]
  exact h.of_kept rfl { h.flags with } (.of_connected hc)

/-! ### The control bytes -/

theorem exec_control_linkOk {i : Instr} (h : LinkOk s) (hl : i.level = .control) (hx : exec i s = .next t) :
    LinkOk t := by
  rcases exec_control_cases hl hx with ⟨-, -, rfl⟩ | ⟨-, -, -, rfl⟩ | ⟨hc, cls, rfl⟩ | ⟨hc, st, -, rfl⟩ |
    ⟨hc, a, u, hu, hw, hact⟩
  · exact (linkOk_reinitOnRst s).finish _
  · exact (linkOk_linkDown _ _ _).finish _
  · exact h.notConnected hc cls
  · exact (h.reject hc).finish _
  · have hu : LinkOk u ∧ u.connected = true := by
      rcases hu with ⟨rfl, -⟩ | ⟨rfl, -⟩
      · exact ⟨h, hc⟩
      · exact ⟨h.handleAck hc hw, hc⟩
    obtain ⟨hu, hcu⟩ := hu
    rcases hact with ⟨f, r, -, rfl⟩ | ⟨p, n, -, rfl⟩ | ⟨p, n, -, rfl⟩
    · exact hu.dataReceived hcu f r
    · exact hu.of_kept rfl { hu.flags with } (.of_connected hcu)
    · exact hu.nakReceived hcu n

/-- With a received frame looked at, `receive` returns (46_operations.md R352). -/
theorem exec_control_returns {i : Instr} (hl : i.level = .control) (hx : exec i s = .next t) :
    t.activity = .idle ∧ t.rxFrame = [] := by
  rcases exec_control_cases hl hx with ⟨-, -, rfl⟩ | ⟨-, -, -, rfl⟩ | ⟨-, cls, rfl⟩ | ⟨-, st, -, rfl⟩ |
    ⟨-, a, u, -, -, ⟨f, r, -, rfl⟩ | ⟨p, n, -, rfl⟩ | ⟨p, n, -, rfl⟩⟩
  · exact ⟨rfl, rfl⟩
  · exact ⟨rfl, rfl⟩
  · obtain ⟨st, e, pe, -, hn⟩ := notConnected_form cls s
    rw [hn]
    exact ⟨rfl, rfl⟩
  · exact ⟨rfl, rfl⟩
  · rcases dataReceived_cases f r u with ⟨-, -, hd⟩ | ⟨st, rj, nk, ak, -, -, hd⟩ <;> rw [hd] <;> exact ⟨rfl, rfl⟩
  · exact ⟨rfl, rfl⟩
  · exact ⟨rfl, rfl⟩

/-- The frame left the decoder between frames, so the buffer may be handed to the caller. -/
theorem exec_control_engineInv {i : Instr} (h : EngineInv s) (ha : s.activity = .frameEnd) (hl : i.level = .control)
    (hx : exec i s = .next t) : EngineInv t := by
  obtain ⟨⟨hcfg, -⟩, ⟨hdec, hbuf, -⟩, -⟩ := exec_control_keeps hl hx
  obtain ⟨hidle, hnone⟩ := exec_control_returns hl hx
  refine (exec_control_linkOk h.link hl hx).engineInv (.of_betweenFrames ?_ ?_) (.of_noFrame (by simp [hidle]) hnone)
  · rw [hdec]
    exact h.frame.decoder_clear ha
  · rw [hbuf, hcfg]
    exact h.decoder.buf_len

/-! ### Data bytes (40_codec.md R167 to R170) -/

/-- One byte more in the frame: the byte that leaves the delay line is the next of the payload (20_memory.md R73). -/
theorem take_storeLeaving {d : Decoder} {buf : List Byte} {v : Byte} (hn : d.frame.length < buf.length + 3)
    (hbuf : d.frame ≠ [] → buf.take (d.frame.length - 3) = framePayload d.frame) (hd : d.drop = false) :
    (storeLeaving d buf).take ((d.frame ++ [v]).length - 3) = framePayload (d.frame ++ [v]) := by
  by_cases h3 : 3 ≤ d.frame.length
  · have hlen : (d.frame ++ [v]).length - 3 = d.frame.length - 3 + 1 := by simp; omega
    have hlt : d.frame.length - 3 < buf.length := by omega
    rw [framePayload_append _ _ h3, ← hbuf (List.ne_nil_of_length_pos (by omega)), storeLeaving, if_pos ⟨hd, h3⟩, hlen,
      List.take_add_one, List.take_set_of_le (Nat.le_refl _), List.getElem?_set_self hlt]
    rfl
  · have hlen : (d.frame ++ [v]).length - 3 = 0 := by simp; omega
    simp only [framePayload, hlen, List.take_zero]

/-- `decDrop` once a data byte has been taken: the first byte of a frame asks whether the buffer is free (R168). -/
def dropAfter (s : State) : Bool := if s.dec.frame.isEmpty then s.rxHeld else s.dec.drop

theorem dropAfter_of_inFrame (hne : s.dec.frame ≠ []) : dropAfter s = s.dec.drop := by simp [dropAfter, hne]

theorem DecoderOk.dropAfter_of_held (h : DecoderOk s) (hh : s.rxHeld = true) : dropAfter s = true := by
  unfold dropAfter
  split
  · exact hh
  · next hne => exact h.held_drop hh (by simpa using hne)

theorem DecoderOk.dataByte (h : DecoderOk s) (b : Byte) : DecoderOk (dataByte b s) := by
  have stored (hne : s.dec.frame ≠ []) (hd : dropAfter s = false) :
      s.rxBuf.take (s.dec.frame.length - 3) = framePayload s.dec.frame :=
    h.buf_payload hne ((dropAfter_of_inFrame hne).symm.trans hd)
  cases herr : s.dec.err with
  | true => rwa [dataByte_of_err b herr]
  | false =>
    unfold Machine.dataByte
    rw [if_neg (by simp [herr])]
    dsimp only
    split
    · next hlt =>
      exact
      { frame_len := by simpa using hlt
        ovf_full := fun ho => absurd (h.ovf_full ho) hlt.ne
        buf_len := (storeLeaving_length _ _).trans h.buf_len
        held_drop := fun hh _ => h.dropAfter_of_held hh
        buf_payload := fun _ hd => take_storeLeaving (d := { s.dec with esc := false, drop := dropAfter s })
          (by rw [h.buf_len]; exact hlt) (fun hne => stored hne hd) hd }
    · next hge =>
      exact
      { frame_len := h.frame_len
        ovf_full := fun _ => h.frame_len.antisymm (Nat.le_of_not_lt hge)
        buf_len := h.buf_len
        held_drop := fun hh _ => h.dropAfter_of_held hh
        buf_payload := stored }

theorem EngineInv.dataByte (h : EngineInv s) (ha : s.activity ≠ .frameEnd) (b : Byte) : EngineInv (dataByte b s) := by
  have hd := h.decoder.dataByte b
  have hnone := h.frame.none_else ha
  obtain ⟨d, buf, hform⟩ := dataByte_form b s
  rw [hform] at hd ⊢
  exact LinkOk.engineInv (h.link.of_kept rfl { h.flags with } { h.quiet with }) hd (.of_noFrame ha hnone)

/-! ### The reserved line bytes (40_codec.md R157 to R166) -/

/-- What a line byte does to the decoder: it marks the frame in assembly, or clears it, with or without a status; or it
is a FLAG that hands a good frame on, or a WAKE inside a frame, which is a data byte. -/
theorem exec_line_decoder {i : Instr} (hl : i.level = .line) (hx : exec i s = .next t) :
    (∃ esc err x, t = { s with dec := { s.dec with esc := esc, err := err }, peerXoff := x }) ∨
    t = { s with dec := decClear s.dec } ∨
    (∃ st, t = codecError st { s with dec := decClear s.dec }) ∨
    (3 ≤ s.dec.frame.length ∧ crcGood s.cfg.toRawParams s.dec.frame = true ∧
      t = { s with dec := decClear s.dec, activity := .frameEnd, rxFrame := s.dec.frame }) ∨
    t = dataByte 0xFF#8 s := by
  cases i with
  | flag =>
    simp only [exec, execFlag] at hx
    repeat' split at hx
    all_goals cases hx
    · exact .inr (.inr (.inl ⟨_, rfl⟩))
    · exact .inr (.inl rfl)
    · exact .inr (.inr (.inl ⟨_, rfl⟩))
    · exact .inr (.inr (.inl ⟨_, rfl⟩))
    · exact .inr (.inr (.inl ⟨_, rfl⟩))
    · next h3 hcrc => exact .inr (.inr (.inr (.inl ⟨Nat.le_of_not_lt h3, by simpa using hcrc, rfl⟩)))
  | escape => cases hx; exact .inl ⟨true, s.dec.err, s.peerXoff, rfl⟩
  | xon => cases hx; exact .inl ⟨s.dec.esc, s.dec.err, false, rfl⟩
  | xoff => cases hx; exact .inl ⟨s.dec.esc, s.dec.err, true, rfl⟩
  | substitute => cases hx; exact .inl ⟨s.dec.esc, true, s.peerXoff, rfl⟩
  | cancel =>
    by_cases hact : decActive s.dec = true
    · rw [exec_cancel_of_active hact] at hx
      cases hx
      exact .inr (.inr (.inl ⟨_, rfl⟩))
    · rw [exec_cancel_of_inactive hact] at hx
      cases hx
      exact .inl ⟨s.dec.esc, s.dec.err, s.peerXoff, rfl⟩
  | wake =>
    by_cases hact : decActive s.dec = true
    · rw [exec_wake_of_active hact] at hx
      cases hx
      exact .inr (.inr (.inr (.inr rfl)))
    · rw [exec_wake_of_inactive hact] at hx
      cases hx
      exact .inl ⟨s.dec.esc, s.dec.err, s.peerXoff, rfl⟩
  | _ => cases hl

theorem betweenFrames_decClear (d : Decoder) : betweenFrames (decClear d) := ⟨rfl, rfl, rfl, rfl⟩

theorem exec_line_engineInv {i : Instr} (h : EngineInv s) (ha : s.activity ≠ .frameEnd) (hl : i.level = .line)
    (hx : exec i s = .next t) : EngineInv t := by
  have hnone := h.frame.none_else ha
  have cleared : LinkOk { s with dec := decClear s.dec } := h.link.of_kept rfl { h.flags with } { h.quiet with }
  rcases exec_line_decoder hl hx with ⟨esc, err, x, rfl⟩ | rfl | ⟨st, rfl⟩ | ⟨h3, hcrc, rfl⟩ | rfl
  · exact LinkOk.engineInv (h.link.of_kept rfl { h.flags with } { h.quiet with }) { h.decoder with }
      (.of_noFrame ha hnone)
  · exact cleared.engineInv (.of_betweenFrames (betweenFrames_decClear _) h.decoder.buf_len) (.of_noFrame ha hnone)
  · refine (cleared.codecError st).engineInv (.of_betweenFrames ?_ ?_) ?_
    all_goals
      obtain ⟨r, n, hform⟩ := codecError_form st { s with dec := decClear s.dec }
      rw [hform]
    · exact betweenFrames_decClear _
    · exact h.decoder.buf_len
    · exact .of_noFrame nofun rfl
  · have hne : s.dec.frame ≠ [] := List.ne_nil_of_length_pos (by omega)
    exact LinkOk.engineInv (h.link.of_kept rfl { h.flags with } { h.quiet with })
      (.of_betweenFrames (betweenFrames_decClear _) h.decoder.buf_len)
      { none_else := fun hn => absurd rfl hn
        decoder_clear := fun _ => betweenFrames_decClear _
        length_low := fun _ => h3
        length_high := fun _ => h.decoder.frame_len
        crc := fun _ => hcrc
        held_drop := fun _ hh => h.decoder.held_drop hh hne
        buf_payload := fun _ hd => h.decoder.buf_payload hne hd }
  · exact h.dataByte ha _

end

end Sys2Proof.Safety
end

section
/-! SUPPORT. The invariant under the transmit sequencer. -/

namespace Sys2Proof.Safety

open Sys2Proof.Machine Sys2Proof.Laws

section
variable {s t : State}

/-! ### The start of a frame (42_arq_transmit.md R233 to R244) -/

/-- A retransmission goes on only while Connected. -/
theorem QuietOk.connected_of_retx (h : QuietOk s) (hr : s.retx = true) : s.connected = true := by
  by_contra hc
  obtain ⟨-, hretx, -, -⟩ := h.flags (by simpa using hc)
  rw [hr] at hretx
  cases hretx

theorem LinkOk.housekeeping (h : LinkOk s) : LinkOk (housekeeping s) := by
  cases hr : s.retx with
  | false => rwa [housekeeping_of_notRetx hr]
  | true =>
    rw [housekeeping_of_retx hr]
    exact h.of_kept rfl { h.flags with } (.of_connected (h.quiet.connected_of_retx hr))

/-- What a selection says of the link (R235). -/
def Entitled : Selection → State → Prop
  | .error, _ => True
  | .rstack, s => s.rstack = true
  | .nak, s | .ack, s | .retx, s => s.connected = true
  | .dataHigh, s | .dataNorm, s => s.connected = true ∧ dist8 s.ackRx s.frmTx < s.cfg.txK

theorem entitled_of_selectNext {sel : Selection} (h : selectNext s = some sel) : Entitled sel s := by
  rw [selectionPriority s] at h
  repeat' split at h
  all_goals cases h
  all_goals simp_all [Entitled]

/-- The numbers of a DATA frame of the engine's own are read back from its control byte. -/
theorem ctlFrmNum_frameBody (f a : SeqNum) : ctlFrmNum ((f.setWidth 8 <<< 4) ||| a.setWidth 8) = f := by
  revert f a
  decide

/-- An ACK or NAK is no RSTACK. -/
theorem ack_nak_ne_rstack (a : SeqNum) : 0x80#8 ||| a.setWidth 8 ≠ 0xC1#8 ∧ 0xA0#8 ||| a.setWidth 8 ≠ 0xC1#8 := by
  revert a
  decide

/-- The frame just begun is what the invariant says of a frame in progress. -/
theorem started_sendingOk {sel : Selection} (hsel : Entitled sel s) (he : EntryThere sel s) :
    SendingOk (started sel s) := by
  cases sel with
  | error => exact .of_short rfl nofun
  | rstack => exact .of_short rfl fun _ => hsel
  | nak => exact .of_short rfl fun h => absurd h (ack_nak_ne_rstack _).2
  | ack => exact .of_short rfl fun h => absurd h (ack_nak_ne_rstack _).1
  | retx => exact ⟨nofun, fun _ => hsel, nofun, nofun, nofun, nofun⟩
  | dataHigh =>
    obtain ⟨p, rest, hq⟩ := List.exists_cons_of_ne_nil he
    refine ⟨fun _ => hsel.1, nofun, fun _ => hsel.2, fun _ => ?_, fun _ => ctlFrmNum_frameBody _ _, nofun⟩
    simp [started, startRegs, txQueue, encStart, frameBody, hq]
  | dataNorm =>
    obtain ⟨p, rest, hq⟩ := List.exists_cons_of_ne_nil he
    refine ⟨fun _ => hsel.1, nofun, fun _ => hsel.2, fun _ => ?_, fun _ => ctlFrmNum_frameBody _ _, nofun⟩
    simp [started, startRegs, txQueue, encStart, frameBody, hq]

theorem started_sendState_ne_idle (sel : Selection) (s : State) : (started sel s).sendState ≠ .idle := by
  cases sel <;> exact nofun

theorem LinkOk.started {sel : Selection} (h : LinkOk s) (hsel : Entitled sel s) (he : EntryThere sel s) :
    LinkOk (started sel s) where
  flags := by
    cases sel with
    | error => exact ⟨h.flags.connected_rstack, fun _ => rfl, fun _ => rfl⟩
    | _ => exact { h.flags with }
  encoder :=
    { idle_iff_done := iff_of_false (started_sendState_ne_idle sel s) nofun
      done_no_esc := nofun
      body_left := fun _ => List.length_pos_iff.mpr (frameBody_ne_nil sel s) }
  window := by cases sel <;> exact { h.window with }
  queues := by cases sel <;> exact { h.queues with }
  sending := started_sendingOk hsel he
  timers := by cases sel <;> exact { h.timers with }
  quiet := by
    cases sel with
    | error | rstack => exact { h.quiet with }
    | nak | ack | retx => exact .of_connected hsel
    | dataHigh | dataNorm => exact .of_connected hsel.1

/-! ### The end of a frame (42_arq_transmit.md R249 to R252) -/

section
variable {e : Encoder}

theorem LinkOk.endFrame (h : LinkOk s) (b : Byte) (hp : e.phase = .done) (he : e.esc = none) :
    LinkOk (endFrame { writeByte b s with enc := e }) where
  flags := { h.flags with }
  encoder := .of_idle rfl hp he
  window := { h.window with }
  queues := { h.queues with }
  sending := .of_idle rfl
  timers := { h.timers with }
  quiet := { h.quiet with }

/-- A payload that moves from its queue to the retransmit queue keeps its slot (20_memory.md R74, R251). -/
theorem QueuesOk.completeData {high : Bool} {p : Payload} {rest : List Payload} (h : QueuesOk s)
    (hq : txQueue high s = p :: rest) :
    QueuesOk { s with
      txHigh := if high then rest else s.txHigh, txNorm := if high then s.txNorm else rest, reTx := s.reTx ++ [p] } := by
  have hslots := h.slots
  have sent {q : List Payload} (hq : q = p :: rest) (hl : ∀ x ∈ q, x.length ≤ s.cfg.maxDataLen) :
      p.length ≤ s.cfg.maxDataLen ∧ ∀ x ∈ rest, x.length ≤ s.cfg.maxDataLen := by
    subst hq
    exact List.forall_mem_cons.mp hl
  have again (hp : p.length ≤ s.cfg.maxDataLen) : ∀ x ∈ s.reTx ++ [p], x.length ≤ s.cfg.maxDataLen :=
    List.forall_mem_append.mpr ⟨h.reTx_len, by simpa using hp⟩
  unfold slotsUsed at hslots
  cases high with
  | true =>
    have hq : s.txHigh = p :: rest := hq
    obtain ⟨hp, hrest⟩ := sent hq h.high_len
    refine ⟨?_, hrest, h.norm_len, again hp⟩
    rw [hq] at hslots
    simp only [slotsUsed, if_true, List.length_append, List.length_cons, List.length_nil] at hslots ⊢
    omega
  | false =>
    have hq : s.txNorm = p :: rest := hq
    obtain ⟨hp, hrest⟩ := sent hq h.norm_len
    refine ⟨?_, h.high_len, hrest, again hp⟩
    rw [hq] at hslots
    simp only [slotsUsed, Bool.false_eq_true, if_false, List.length_append, List.length_cons, List.length_nil]
      at hslots ⊢
    omega

/-- A new number fits, since the frame was begun with the window open (42_arq_transmit.md R251, R253). -/
theorem WindowOk.completeData (h : WindowOk s) (hopen : dist8 s.ackRx s.frmTx < s.cfg.txK) (p : Payload) :
    WindowOk { s with reTx := s.reTx ++ [p], frmTx := inc8 s.frmTx } := by
  have := params_in_range s.cfg
  have hinc := dist8_inc8 s.ackRx s.frmTx (by omega)
  have hlen := h.reTx_length
  rw [h.head_eq] at hlen
  refine ⟨h.head_eq, ?_, hinc.trans_le hopen⟩
  simp only [h.head_eq, hinc, List.length_append, List.length_singleton, hlen]

theorem LinkOk.completeFrame {b : Byte} (h : LinkOk s) (hp : e.phase = .done) (he : e.esc = none)
    (hc : completeFrame { writeByte b s with enc := e } = .ok t) : LinkOk t := by
  have hend := h.endFrame b hp he
  rcases completeFrame_cases hc with ⟨hs, hctl, rfl⟩ | ⟨-, -, rfl⟩ | ⟨hs, p, rest, hq, rfl⟩ | ⟨hs, rfl⟩
  · have herr := h.flags.rstack_error (h.sending.rstack_owed hs hctl)
    exact
    { flags := ⟨fun _ => rfl, fun _ => herr, nofun⟩
      encoder := .of_idle rfl hp he
      window := { h.window with }
      queues := { h.queues with }
      sending := .of_idle rfl
      timers := { h.timers with }
      quiet := .of_connected rfl }
  · exact hend
  · exact
    { flags := { h.flags with }
      encoder := .of_idle rfl hp he
      window := { h.window.completeData (h.sending.data_window hs) p with }
      queues := { h.queues.completeData hq with }
      sending := .of_idle rfl
      timers := { h.timers with }
      quiet := .of_connected (h.sending.data_connected hs) }
  · exact hend.of_kept rfl { h.flags with } (.of_connected (h.sending.retx_connected hs))

end

/-! ### One call of `sendStep` -/

theorem LinkOk.continueFrame {r : SendResult} (h : LinkOk s) (hs : s.sendState ≠ .idle)
    (hc : continueFrame s = .ok (r, t)) : LinkOk t := by
  have hd : s.enc.phase ≠ .done := h.encoder.idle_iff_done.not.mp hs
  obtain ⟨-, b, e, hnext, hrest⟩ := continueFrame_cases hc
  obtain ⟨b', e', hnext', -, hready⟩ :=
    encNext_txWire s.cfg.toRawParams ⟨h.encoder.body_left, h.encoder.done_no_esc⟩ hd
  obtain ⟨rfl, rfl⟩ : b = b' ∧ e = e' := by simpa [hnext] using hnext'
  rcases hrest with ⟨hp, rfl⟩ | ⟨hp, hdone⟩
  · exact
    { flags := { h.flags with }
      encoder := ⟨iff_of_false hs hp, hready.done_no_esc, hready.body_left⟩
      window := { h.window with }
      queues := { h.queues with }
      sending := { h.sending with data_head := fun hds => encNext_body hnext ▸ h.sending.data_head hds }
      timers := { h.timers with }
      quiet := { h.quiet with } }
  · exact h.completeFrame hp (hready.done_no_esc hp) hdone

theorem sendStep_linkOk {r : SendResult} (h : EngineInv s) (hx : sendStep s = .ok (r, t)) : LinkOk t := by
  rcases sendStep_cases hx with ⟨-, -, rfl⟩ | ⟨-, -, -, -, rfl⟩ | ⟨-, hs, sel, u, hsel, hu, hc⟩ | ⟨-, hs, hc⟩
  · exact h.link.of_kept rfl { h.flags with } { h.quiet with }
  · exact h.link.housekeeping
  · have hd : (housekeeping s).enc.phase = .done := by
      rw [housekeeping_enc]
      exact h.encoder.idle_iff_done.mp hs
    have he := entryThere_of_selectNext h hsel
    obtain rfl : started sel (housekeeping s) = u := by simpa [startFrame_eq_started hd he] using hu
    exact (h.link.housekeeping.started (entitled_of_selectNext hsel) he).continueFrame
      (started_sendState_ne_idle _ _) hc
  · exact h.link.continueFrame hs hc

/-! ### The sequencer keeps the reception -/

theorem completeFrame_keepsReception (h : completeFrame s = .ok t) : KeepsReception s t := by
  rcases completeFrame_cases h with ⟨-, -, rfl⟩ | ⟨-, -, rfl⟩ | ⟨-, _, _, -, rfl⟩ | ⟨-, rfl⟩ <;>
    exact ⟨rfl, rfl, rfl, rfl, rfl, rfl⟩

theorem continueFrame_keepsReception {r : SendResult} (h : continueFrame s = .ok (r, t)) : KeepsReception s t := by
  obtain ⟨-, b, e, -, ⟨-, rfl⟩ | ⟨-, hc⟩⟩ := continueFrame_cases h
  · exact ⟨rfl, rfl, rfl, rfl, rfl, rfl⟩
  · exact { completeFrame_keepsReception hc with }

theorem sendStep_keepsReception {r : SendResult} (h : sendStep s = .ok (r, t)) : KeepsReception s t := by
  obtain ⟨rx, fr, hk⟩ := housekeeping_form s
  rcases sendStep_cases h with ⟨-, -, rfl⟩ | ⟨-, -, -, -, rfl⟩ | ⟨-, -, sel, u, -, hu, hc⟩ | ⟨-, -, hc⟩
  · exact ⟨rfl, rfl, rfl, rfl, rfl, rfl⟩
  · rw [hk]
    exact ⟨rfl, rfl, rfl, rfl, rfl, rfl⟩
  · obtain ⟨-, i, field, next, er, rt, nk, ak, atx, hi, -, -, -, rfl⟩ := startFrame_cases (hk ▸ hu)
    exact { continueFrame_keepsReception hc with }
  · exact continueFrame_keepsReception hc

theorem EngineInv.sendStep {r : SendResult} (h : EngineInv s) (hx : sendStep s = .ok (r, t)) : EngineInv t :=
  have hk := sendStep_keepsReception hx
  (sendStep_linkOk h hx).engineInv (h.decoder.of_kept hk) (h.frame.of_kept hk)

end

end Sys2Proof.Safety
end

section
/-! SUPPORT. The invariant under the events between operations, and under every step: the statement O49. -/

namespace Sys2Proof.Safety

open Sys2Proof.Machine Sys2Proof.Laws

section
variable {s t : State}

/-! ### `send` (46_operations.md R351) -/

/-- Payloads of legal length join the queues where slots are free; a head stays the head. -/
theorem LinkOk.joined (h : LinkOk s) (hc : s.connected = true) {qh qn : List Payload}
    (hlen : ∀ p ∈ qh ++ qn, p.length ≤ s.cfg.maxDataLen)
    (hslots : slotsUsed s + (qh ++ qn).length ≤ s.cfg.nTxSlots) :
    LinkOk { s with txHigh := s.txHigh ++ qh, txNorm := s.txNorm ++ qn } := by
  obtain ⟨hqh, hqn⟩ := List.forall_mem_append.mp hlen
  exact
  { flags := { h.flags with }
    encoder := { h.encoder with }
    window := { h.window with }
    queues :=
      { slots := by
          simp only [slotsUsed, List.length_append] at hslots ⊢
          omega
        high_len := List.forall_mem_append.mpr ⟨h.queues.high_len, hqh⟩
        norm_len := List.forall_mem_append.mpr ⟨h.queues.norm_len, hqn⟩
        reTx_len := h.queues.reTx_len }
    sending :=
      { h.sending with
        data_head := fun hs => by
          have happ (high : Bool) : txQueue high { s with txHigh := s.txHigh ++ qh, txNorm := s.txNorm ++ qn } =
              txQueue high s ++ if high then qh else qn := by cases high <;> rfl
          rw [happ, List.head?_append, h.sending.data_head hs]
          rfl }
    timers := { h.timers with }
    quiet := .of_connected hc }

theorem LinkOk.send (h : LinkOk s) (p : Payload) (high : Bool) : LinkOk (send p high s) := by
  unfold Machine.send
  split
  · exact h.finish _
  next hc =>
  split
  · exact h.finish _
  next hlen =>
  split
  · exact h.finish _
  next hslot =>
  have hc : s.connected = true := by simpa using hc
  have hlen := Nat.le_of_not_lt hlen
  have hslot := Nat.lt_of_not_le hslot
  split
  · have hj := h.joined hc (qh := [p]) (qn := []) (by simpa using hlen) hslot
    rw [List.append_nil] at hj
    exact hj.finish _
  · have hj := h.joined hc (qh := []) (qn := [p]) (by simpa using hlen) hslot
    rw [List.append_nil] at hj
    exact hj.finish _

/-! ### The clock and the polling of the timers (43_timers.md R270, R276, R278) -/

/-- While the link is at rest its timers stay at zero. -/
theorem LinkOk.withTimers (h : LinkOk s) {ta tn : Timer} (tr : Timer) (hta : s.ackTimer = Timer.zero → ta = Timer.zero)
    (htn : s.nrTimer = Timer.zero → tn = Timer.zero) :
    LinkOk { s with ackTimer := ta, nrTimer := tn, rebootTimer := tr } := by
  refine h.of_kept rfl { h.flags with } { h.quiet with timers := fun hc => ?_ }
  obtain ⟨hcount, hperiod, hack, hnr⟩ := h.quiet.timers hc
  exact ⟨hcount, hperiod, hta hack, htn hnr⟩

theorem LinkOk.tick (h : LinkOk s) (d : Nat) : LinkOk (tick d s) := by
  have rest {x : Timer} (hx : x = Timer.zero) : x.advance d = Timer.zero := by
    rw [hx]
    exact Timer.advance_of_stopped d rfl
  exact h.withTimers _ rest rest

theorem LinkOk.pollNr (h : LinkOk s) : LinkOk (pollNr s) := by
  unfold Machine.pollNr
  split
  · exact h.withTimers s.rebootTimer id fun hn => congrArg Timer.stop hn
  · exact h

/-- A timeout within the budget keeps the period in its bounds (R275). -/
theorem LinkOk.timedOut (h : LinkOk s) (hc : s.connected = true)
    (hb : (timedOut s).timeouts.toNat ≤ s.cfg.maxTimeouts) : LinkOk (timedOut s) where
  flags := { h.flags with }
  encoder := { h.encoder with }
  window := { h.window with }
  queues := { h.queues with }
  sending := { h.sending with }
  timers :=
    have hp := backoffPeriod_bounds s.cfg s.ackPeriod h.timers.period_low
    ⟨hp.1, hp.2, hb⟩
  quiet := .of_connected hc

theorem LinkOk.pollAck (h : LinkOk s) : LinkOk (pollAck s).2 := by
  by_cases he : s.ackTimer.expired s.ackPeriod.toNat = true
  swap
  · rwa [pollAck_of_running he]
  by_cases ho : s.connected = true ∧ s.ackRx ≠ s.frmTx
  swap
  · rw [pollAck_of_nothingOutstanding he ho]
    exact h.withTimers s.rebootTimer (fun ha => congrArg Timer.stop ha) id
  obtain ⟨hc, ho⟩ := ho
  by_cases hb : (Laws.timedOut s).timeouts.toNat ≤ s.cfg.maxTimeouts
  · rw [pollAck_of_retry he hc ho hb]
    have ht := h.timedOut hc hb
    exact ht.of_kept rfl { ht.flags with } (.of_connected hc)
  · rw [pollAck_of_fatal he hc ho (Nat.lt_of_not_le hb)]
    exact linkOk_linkDown _ _ _

theorem pollTimers_keepsReception (s : State) : KeepsReception s (pollTimers s).2 := by
  rcases pollTimers_cases s with ⟨nr, ap, n, rx, fr, ta, h⟩ | ⟨-, -, -, nr, ap, h⟩ <;> rw [h] <;>
    exact ⟨rfl, rfl, rfl, rfl, rfl, rfl⟩

theorem EngineInv.beginSendExec (h : EngineInv s) (ha : s.activity ≠ .frameEnd) : EngineInv (beginSendExec s) := by
  have hl := h.link.pollNr.pollAck
  have hk := pollTimers_keepsReception s
  exact LinkOk.engineInv (hl.of_kept rfl { hl.flags with } { hl.quiet with }) { h.decoder.of_kept hk with }
    (.of_noFrame nofun (hk.rxFrame.trans (h.frame.none_else ha)))

/-! ### The other events -/

/-- A buffer given back holds any value, and the frame in assembly is one that is dropped (44_queues.md R306). -/
theorem EngineInv.rxRelease (h : EngineInv s) (ha : s.activity ≠ .frameEnd) : EngineInv (rxRelease s) := by
  unfold Machine.rxRelease
  split
  · next hheld =>
    refine LinkOk.engineInv (h.link.of_kept rfl { h.flags with } { h.quiet with }) ?_
      (.of_noFrame ha (h.frame.none_else ha))
    exact
    { h.decoder with
      buf_len := freeRxBuf_length _ _
      held_drop := nofun
      buf_payload := fun hne hd => by
        rw [show s.dec.drop = true from h.decoder.held_drop hheld hne] at hd
        cases hd }
  · exact h

theorem EngineInv.hwReset (h : EngineInv s) (ha : s.activity ≠ .frameEnd) : EngineInv (hwReset s) :=
  (linkOk_hwReset s).engineInv (.of_betweenFrames ⟨rfl, rfl, rfl, rfl⟩ (freeRxBuf_length _ _))
    (.of_noFrame ha (h.frame.none_else ha))

theorem runEvent_engineInv (h : EngineInv s) (ha : s.activity = .idle) (e : Event) : EngineInv (runEvent e s) := by
  have hne : s.activity ≠ .frameEnd := by simp [ha]
  have hnone := h.frame.none_else hne
  cases e with
  | send payload high =>
    have hl := h.link.send payload high
    obtain ⟨st, qh, qn, hform⟩ := send_form payload high s
    rw [hform] at hl
    simp only [runEvent, hform]
    exact hl.engineInv { h.decoder with } (.of_noFrame nofun rfl)
  | receive =>
    exact LinkOk.engineInv (h.link.of_kept rfl { h.flags with } { h.quiet with }) { h.decoder with }
      (.of_noFrame nofun hnone)
  | sendExec => exact h.beginSendExec hne
  | isTxSpaceAvailable => exact h.finish _
  | isConnected => exact h.finish _
  | rxRelease => exact (h.rxRelease hne).finish _
  | tick d => exact (h.link.tick d).engineInv { h.decoder with } (.of_noFrame hne hnone)
  | hwReset => exact h.hwReset hne
  | bytesArrive bytes => exact h.withInputs _ _ _ _
  | writeAnswers answers => exact h.withInputs _ _ _ _
  | setResetReason r => exact h.withInputs _ _ _ _

end

end Sys2Proof.Safety

namespace Sys2Proof.Laws

open Sys2Proof.Machine Sys2Proof.Safety

/-! ### The step -/

/-- Settles O49: every part of an operation keeps the invariant; what a step takes from the environment first is outside
it. -/
theorem stepKeepsEngineInv : Obligations.StepKeepsEngineInv := by
  intro s t h hstep
  have receiving (ha : s.activity = .receiving) : s.activity ≠ .frameEnd := by simp [ha]
  rcases step_cases hstep with ⟨-, -, rfl⟩ | ⟨ha, e, rest, -, rfl⟩ | ⟨-, -, rfl⟩ | ⟨ha, b, rest, -, -, rfl⟩ |
    ⟨ha, b, rest, i, -, hd, hx⟩ | ⟨ha, c, rest, -, -, rfl⟩ | ⟨ha, c, rest, i, -, hd, hx⟩ |
    ⟨fatal, -, answers, -, hs⟩ | ⟨fatal, -, answers, u, -, hs, rfl⟩ | ⟨fatal, -, answers, -, rfl⟩
  · exact h
  · exact runEvent_engineInv (h.withInputs _ _ _ rest) ha e
  · exact h.finish _
  · exact (h.withInputs rest _ _ _).dataByte (receiving ha) b
  · exact exec_line_engineInv (h.withInputs rest _ _ _) (receiving ha) (decodeLine_level hd) hx
  · -- a control byte of no type is treated as an RSTACK is: class INVALID
    exact exec_control_engineInv (i := .rstack) h ha rfl rfl
  · exact exec_control_engineInv h ha (decodeControl_level hd) hx
  · exact (h.withInputs _ answers _ _).sendStep hs
  · exact ((h.withInputs _ answers _ _).sendStep hs).finish _
  · exact (h.withInputs _ answers _ _).finish _

end Sys2Proof.Laws
end

section
/-! SUPPORT. The connection state under a step, and `hwReset`: the statements O51 and O46 of the family
45_connection.md. -/

namespace Sys2Proof.Laws

open Sys2Proof.Machine Sys2Proof.Safety

section
variable {s t : State}

/-! ### What leaves the connection state (10_state.md R22) -/

theorem connState_of_connected (hc : s.connected = true) : connState s = .connected := if_pos hc

theorem connState_of_rstack (hc : s.connected = false) (hr : s.rstack = true) : connState s = .awaitingRstAck := by
  simp [connState, hc, hr]

theorem LineByteWrites.connState_eq (h : LineByteWrites s t) : connState t = connState s := by
  unfold LineByteWrites at h
  rw [h]
  rfl

theorem AckedFrameWrites.connState_eq (h : AckedFrameWrites s t) : connState t = connState s := by
  unfold AckedFrameWrites at h
  rw [h]
  rfl

theorem notConnected_connState (cls : FrameClass) (s : State) : connState (notConnected cls s) = connState s := by
  obtain ⟨st, e, pe, -, h⟩ := notConnected_form cls s
  rw [h]
  rfl

theorem rejectedFrame_connState (st : Status) (s : State) :
    connState (finishReceive st none (reject s)) = connState s := by
  rw [reject_form]
  rfl

theorem invalidFrame_connState (s : State) : connState (invalidFrame s) = connState s := by
  rcases invalidFrame_cases s with ⟨-, h⟩ | ⟨-, h⟩ <;> rw [h]
  · exact notConnected_connState _ _
  · exact rejectedFrame_connState _ _

theorem dataByte_connState (b : Byte) (s : State) : connState (dataByte b s) = connState s := by
  obtain ⟨d, buf, h⟩ := dataByte_form b s
  rw [h]
  rfl

theorem housekeeping_connState (s : State) : connState (housekeeping s) = connState s := by
  obtain ⟨rx, fr, h⟩ := housekeeping_form s
  rw [h]
  rfl

theorem startFrame_connState {sel : Selection} (h : startFrame sel s = .ok t) : connState t = connState s := by
  obtain ⟨-, i, field, next, er, rt, nk, ak, atx, hi, -, -, -, rfl⟩ := startFrame_cases h
  rfl

/-! ### Received frames (41_arq_receive.md R192, R194) -/

/-- A received frame changes the connection state by `reinitOnRst` or, while Connected, by `linkDown`. -/
theorem exec_control_connState {i : Instr} (hl : i.level = .control) (h : exec i s = .next t) :
    connState t = connState s ∨
    (i = .rst ∧ s.rxFrame.length = 3 ∧ connState t = .awaitingRstAck) ∨
    (i = .error ∧ s.rxFrame.length = 5 ∧ s.connected = true ∧ connState t = .disconnected) := by
  rcases exec_control_cases hl h with ⟨hi, hlen, rfl⟩ | ⟨hi, hlen, hc, rfl⟩ | ⟨-, cls, rfl⟩ | ⟨-, st, -, rfl⟩ |
    ⟨-, a, u, hu, -, hact⟩
  · exact .inr (.inl ⟨hi, hlen, rfl⟩)
  · exact .inr (.inr ⟨hi, hlen, hc, rfl⟩)
  · exact .inl (notConnected_connState _ _)
  · exact .inl (rejectedFrame_connState _ _)
  · have hacked : connState u = connState s := by rcases hu with ⟨rfl, -⟩ | ⟨rfl, -⟩ <;> rfl
    have hframe : connState t = connState u := by
      rcases hact with ⟨f, r, -, rfl⟩ | ⟨p, n, -, rfl⟩ | ⟨p, n, -, rfl⟩
      · exact (dataReceived_writes f r u).connState_eq
      · rfl
      · exact (nakReceived_writes n u).connState_eq
    exact .inl (hframe.trans hacked)

/-! ### The events between operations (43_timers.md R276, 70_reset_and_hazards.md R410) -/

/-- `sendExec` begins: the exceeded timeout budget takes a Connected link down, and an ERROR frame is owed. -/
theorem beginSendExec_connState (h : TimersOk s) :
    connState (beginSendExec s) = connState s ∨
    (s.connected = true ∧ connState (beginSendExec s) = .disconnected ∧ s.timeouts.toNat + 1 > s.cfg.maxTimeouts ∧
      (beginSendExec s).error = true) := by
  unfold beginSendExec
  rcases pollTimers_cases s with ⟨nr, ap, n, rx, fr, ta, hp⟩ | ⟨hc, -, hb, nr, ap, hp⟩ <;> rw [hp]
  · exact .inl rfl
  · exact .inr ⟨hc, rfl, hb.trans_eq (timedOut_timeouts h), rfl⟩

/-- Of the events only `hwReset` and `sendExec` can change the connection state. -/
theorem runEvent_connState (e : Event) (s : State) :
    connState (runEvent e s) = connState s ∨ (e = .hwReset ∧ connState (runEvent e s) = .disconnected) ∨
      e = .sendExec := by
  cases e with
  | send payload high =>
    obtain ⟨st, qh, qn, h⟩ := send_form payload high s
    rw [runEvent, h]
    exact .inl rfl
  | rxRelease =>
    obtain ⟨buf, n, h⟩ := rxRelease_form s
    rw [runEvent, h]
    exact .inl rfl
  | hwReset => exact .inr (.inl ⟨rfl, rfl⟩)
  | sendExec => exact .inr (.inr rfl)
  | _ => exact .inl rfl

/-! ### The transmit sequencer (42_arq_transmit.md R250) -/

/-- The last byte of a frame is the FLAG. -/
theorem txWire_ends_with_flag (p : RawParams) {e : Encoder} (hd : e.phase ≠ .done) :
    ∃ bytes, txWire p e = bytes ++ [0x7E#8] := by
  unfold txWire
  split
  · exact absurd ‹_› hd
  all_goals exact ⟨_, rfl⟩

/-- The byte with which `encNext` finishes a frame is the FLAG (40_codec.md R147). -/
theorem encNext_last_byte {p : RawParams} {e e' : Encoder} {b : Byte} (hr : EncReady e) (hd : e.phase ≠ .done)
    (h : encNext p e = some (b, e')) (hd' : e'.phase = .done) : b = 0x7E#8 := by
  obtain ⟨b', e'', hnext, hw, hr'⟩ := encNext_txWire p hr hd
  obtain ⟨rfl, rfl⟩ : b = b' ∧ e' = e'' := by simpa [h] using hnext
  obtain ⟨bytes, hflag⟩ := txWire_ends_with_flag p hd
  rw [hflag, (txWire_eq_nil_iff p hr').mpr hd', ← List.nil_append [b]] at hw
  simpa using (List.append_inj_right' hw rfl).symm

/-- From `s` to `t` the last byte of the RSTACK frame is written, and the link is Connected. -/
def RstackSent (s t : State) : Prop :=
  connState s = .awaitingRstAck ∧ connState t = .connected ∧ s.txCtl = 0xC1#8 ∧
    s.sendState = .sendingShortFrame ∧ t.sendState = .idle ∧ t.lineOut = s.lineOut ++ [0x7E#8]

/-- The end of a frame changes the connection state only if the frame is the RSTACK. -/
theorem completeFrame_connState (h : completeFrame s = .ok t) :
    connState t = connState s ∨
    (s.sendState = .sendingShortFrame ∧ s.txCtl = 0xC1#8 ∧ connState t = .connected ∧ t.sendState = .idle) := by
  rcases completeFrame_cases h with ⟨hs, hctl, rfl⟩ | ⟨-, -, rfl⟩ | ⟨-, p, rest, -, rfl⟩ | ⟨-, rfl⟩
  · exact .inr ⟨hs, hctl, rfl, rfl⟩
  · exact .inl rfl
  · exact .inl rfl
  · exact .inl rfl

/-- A frame just begun has more than one byte to write, so its first byte completes nothing. -/
theorem continueFrame_of_start_connState {sel : Selection} {u : State} {r : SendResult}
    (hu : startFrame sel s = .ok u) (hc : continueFrame u = .ok (r, t)) : connState t = connState u := by
  obtain ⟨-, i, field, next, er, rt, nk, ak, atx, hi, -, -, -, rfl⟩ := startFrame_cases hu
  obtain ⟨-, b, e, hb, ⟨-, rfl⟩ | ⟨hp, -⟩⟩ := continueFrame_cases hc
  · rfl
  · exact absurd hp (encNext_encStart_phase hb)

/-- Writing on a frame part-sent: an RSTACK in progress is owed, so its last byte makes an AwaitingRstAck link
Connected. -/
theorem continueFrame_connState {r : SendResult} (h : EngineInv s) (hs : s.sendState ≠ .idle)
    (hc : continueFrame s = .ok (r, t)) : connState t = connState s ∨ RstackSent s t := by
  have hd : s.enc.phase ≠ .done := h.encoder.idle_iff_done.not.mp hs
  obtain ⟨-, b, e, hb, ⟨-, rfl⟩ | ⟨hp, hdone⟩⟩ := continueFrame_cases hc
  · exact .inl rfl
  · obtain rfl := encNext_last_byte ⟨h.encoder.body_left, h.encoder.done_no_esc⟩ hd hb hp
    obtain ⟨-, -, -, hout⟩ := completeFrame_environment hdone
    refine (completeFrame_connState hdone).imp id fun ⟨hshort, hctl, hconn, hidle⟩ => ?_
    have howed : s.rstack = true := h.sending.rstack_owed hshort hctl
    have hdown : s.connected = false := by
      by_contra hup
      simp [h.flags.connected_rstack (by simpa using hup)] at howed
    exact ⟨connState_of_rstack hdown howed, hconn, hctl, hshort, hidle, hout⟩

theorem sendStep_connState {r : SendResult} (h : EngineInv s) (hx : sendStep s = .ok (r, t)) :
    connState t = connState s ∨ RstackSent s t := by
  rcases sendStep_cases hx with ⟨-, -, rfl⟩ | ⟨-, -, -, -, rfl⟩ | ⟨-, -, sel, u, -, hu, hc⟩ | ⟨-, hs, hc⟩
  · exact .inl rfl
  · exact .inl (housekeeping_connState s)
  · have hbegun : connState u = connState s := (startFrame_connState hu).trans (housekeeping_connState s)
    exact .inl ((continueFrame_of_start_connState hu hc).trans hbegun)
  · exact continueFrame_connState h hs hc

end

/-! ### The statements -/

/-- Settles O51: by what each part of an operation does to the connection state; the taking of inputs and the return to
the caller leave it. -/
theorem connectionTransitions : Obligations.ConnectionTransitions := by
  intro s t hinv h
  rcases step_cases h with ⟨-, -, rfl⟩ | ⟨ha, e, rest, hs, rfl⟩ | ⟨-, -, rfl⟩ | ⟨-, b, rest, -, -, rfl⟩ |
    ⟨-, b, rest, i, -, hd, hx⟩ | ⟨-, c, rest, -, -, rfl⟩ | ⟨ha, c, rest, i, hf, hd, hx⟩ |
    ⟨fatal, -, answers, -, hx⟩ | ⟨fatal, -, answers, u, -, hx, rfl⟩ | ⟨fatal, -, answers, -, rfl⟩
  · exact .inl rfl
  · rcases runEvent_connState e { s with script := rest } with hk | ⟨rfl, hk⟩ | rfl
    · exact .inl hk
    · exact .inr (.inl ⟨hk, ha, rest, hs⟩)
    · rcases beginSendExec_connState (s := { s with script := rest }) { hinv.timers with } with hk | ⟨hc, hk, hb, he⟩
      · exact .inl hk
      · exact .inr (.inr (.inr (.inr (.inl ⟨connState_of_connected hc, hk, ha, ⟨rest, hs⟩, hb, he⟩))))
  · exact .inl rfl
  · exact .inl (dataByte_connState _ _)
  · exact .inl (exec_line_writes (decodeLine_level hd) hx).connState_eq
  · exact .inl (invalidFrame_connState s)
  · have hhead : s.rxFrame.head? = some (encode i) := by rw [hf, encode_of_decodeControl hd]; rfl
    rcases exec_control_connState (decodeControl_level hd) hx with hk | ⟨rfl, hlen, hk⟩ | ⟨rfl, hlen, hc, hk⟩
    · exact .inl hk
    · exact .inr (.inr (.inl ⟨hk, ha, hhead, hlen⟩))
    · exact .inr (.inr (.inr (.inr (.inr ⟨connState_of_connected hc, hk, ha, hhead, hlen⟩))))
  · exact (sendStep_connState (hinv.withInputs _ answers _ _) hx).imp id fun hsent => .inr (.inr (.inl hsent))
  · exact (sendStep_connState (hinv.withInputs _ answers _ _) hx).imp id fun hsent => .inr (.inr (.inl hsent))
  · exact .inl rfl

/-- Settles O46: `initLink` is the list of R324, and `hwReset` the table of R411, with the free values drawn for what
the table leaves open. -/
theorem hwResetTable : Obligations.HwResetTable :=
  ⟨initLink_eq_connectionStart, fun s _ ha hs =>
    ⟨Config.freeEncBody s.freeDraws, Config.freeEncIdx s.freeDraws, Config.freeEncCrc s.freeDraws,
      freeRxBuf s.freeDraws s.cfg.maxDataLen, s.freeDraws + 1, freeRxBuf_length _ _, step_of_event ha hs⟩⟩

end Sys2Proof.Laws
end

section
/-! SUPPORT. The operations of the caller: `receive` and `sendExec` return, and what `send`, the two queries and
`rxRelease` do: the statements O42, O43, O44, O56 and O57 of the family 46_operations.md. -/

namespace Sys2Proof.Laws

open Sys2Proof.Machine Sys2Proof.Safety

/-! ### `receive` returns (46_operations.md R352) -/

/-- No instruction ends in a fault or a refusal. -/
theorem exec_isNext (i : Instr) (s : State) : ∃ t, exec i s = .next t := by
  cases i with
  | data f r a => exact ⟨_, exec_data f r a s⟩
  | ack p n a => simp only [exec, execAck]; split <;> exact ⟨_, rfl⟩
  | nak p n a => simp only [exec, execNak]; split <;> exact ⟨_, rfl⟩
  | rst => simp only [exec, execRst]; split <;> exact ⟨_, rfl⟩
  | rstack => exact ⟨_, rfl⟩
  | error =>
    simp only [exec, execError]
    split
    · split <;> exact ⟨_, rfl⟩
    · exact ⟨_, rfl⟩
  | flag =>
    simp only [exec, execFlag]
    repeat' split
    all_goals exact ⟨_, rfl⟩
  | escape => exact ⟨_, exec_escape s⟩
  | xon => exact ⟨_, exec_xon s⟩
  | xoff => exact ⟨_, exec_xoff s⟩
  | substitute => exact ⟨_, exec_substitute s⟩
  | cancel => simp only [exec, execCancel]; split <;> exact ⟨_, rfl⟩
  | wake => simp only [exec, execWake]; split <;> exact ⟨_, rfl⟩

/-- From `s` to `t` `receive` has returned: one status, a payload with it exactly on OK, and no byte but from the front
of the stream. -/
structure ReceiveReturned (s t : State) : Prop where
  idle : t.activity = .idle
  returns : ∃ st payload, t.returns = s.returns ++ [.receive st payload] ∧ (payload ≠ none ↔ st = .ok)
  taken : t.lineIn <:+ s.lineIn

section
variable {s t u : State}

/-- What `receive` did before it returned: it took bytes from the stream. -/
theorem ReceiveReturned.of_taken (h : ReceiveReturned u t) (hr : u.returns = s.returns) (hl : u.lineIn <:+ s.lineIn) :
    ReceiveReturned s t :=
  ⟨h.idle, hr ▸ h.returns, h.taken.trans hl⟩

/-- The end of `receive` on any status but OK. -/
theorem finishReceive_returned {st : Status} (hst : st ≠ .ok) (hr : u.returns = s.returns) (hl : u.lineIn = s.lineIn) :
    ReceiveReturned s (finishReceive st none u) where
  idle := rfl
  returns := ⟨st, none, congrArg (· ++ [Return.receive st none]) hr, by simp [hst]⟩
  taken := hl ▸ List.suffix_rfl

theorem receiveNoByte_returned (s : State) : ReceiveReturned s (receiveNoByte s) :=
  finishReceive_returned (by split <;> simp) rfl rfl

theorem codecError_returned {st : Status} (hst : st ≠ .ok) (s : State) : ReceiveReturned s (codecError st s) := by
  obtain ⟨r, n, h⟩ := codecError_form st s
  rw [h]
  exact finishReceive_returned hst rfl rfl

theorem notConnected_returned (cls : FrameClass) (s : State) : ReceiveReturned s (notConnected cls s) := by
  obtain ⟨st, e, pe, hst, h⟩ := notConnected_form cls s
  rw [h]
  exact finishReceive_returned hst rfl rfl

theorem rejectedFrame_returned {st : Status} (hst : st ≠ .ok) (s : State) :
    ReceiveReturned s (finishReceive st none (reject s)) := by
  rw [reject_form]
  exact finishReceive_returned hst rfl rfl

theorem dataReceived_returned (f : SeqNum) (r : Bool) (s : State) : ReceiveReturned s (dataReceived f r s) := by
  rcases dataReceived_cases f r s with ⟨-, -, h⟩ | ⟨st, rj, nk, ak, hst, -, h⟩ <;> rw [h]
  · exact ⟨rfl, ⟨.ok, some (framePayload s.rxFrame), rfl, by simp⟩, List.suffix_rfl⟩
  · exact finishReceive_returned hst rfl rfl

/-- With a received frame looked at, `receive` returns. -/
theorem exec_control_returned {i : Instr} (hl : i.level = .control) (h : exec i s = .next t) : ReceiveReturned s t := by
  rcases exec_control_cases hl h with ⟨-, -, rfl⟩ | ⟨-, -, -, rfl⟩ | ⟨-, cls, rfl⟩ | ⟨-, st, hst, rfl⟩ |
    ⟨-, a, u, hu, -, hact⟩
  · exact finishReceive_returned (by simp) rfl rfl
  · exact finishReceive_returned (by simp) rfl rfl
  · exact notConnected_returned cls s
  · exact rejectedFrame_returned (by rcases hst with rfl | rfl <;> simp) s
  · have hframe : ReceiveReturned u t := by
      rcases hact with ⟨f, r, -, rfl⟩ | ⟨p, n, -, rfl⟩ | ⟨p, n, -, rfl⟩
      · exact dataReceived_returned f r u
      · exact finishReceive_returned (by simp) rfl rfl
      · obtain ⟨nr, rx, fr, hn⟩ := nakReceived_form n u
        rw [hn]
        exact finishReceive_returned (by simp) rfl rfl
    -- `handleAck` neither returns nor reads
    rcases hu with ⟨rfl, -⟩ | ⟨rfl, -⟩
    · exact hframe
    · exact hframe.of_taken rfl List.suffix_rfl

/-- From `s` to `t` `receive` has not returned: it is about to read the next byte, or to look at a frame. -/
structure ReceiveContinues (s t : State) : Prop where
  activity : t.activity = .receiving ∨ t.activity = .frameEnd
  returns : t.returns = s.returns
  lineIn : t.lineIn = s.lineIn

theorem dataByte_continues (b : Byte) (ha : s.activity = .receiving) : ReceiveContinues s (dataByte b s) := by
  obtain ⟨d, buf, h⟩ := dataByte_form b s
  rw [h]
  exact ⟨.inl ha, rfl, rfl⟩

/-- A line byte ends `receive` with a rejected frame, or `receive` goes on. -/
theorem exec_line_returned_or_continues {i : Instr} (ha : s.activity = .receiving) (hl : i.level = .line)
    (h : exec i s = .next t) : ReceiveReturned s t ∨ ReceiveContinues s t := by
  rcases exec_line_cases hl h with ⟨d, x, rfl, -⟩ | ⟨st, hst, rfl⟩ | ⟨-, -, -, -, -, rfl⟩ | ⟨-, -, rfl⟩
  · exact .inr ⟨.inl ha, rfl, rfl⟩
  · exact .inl ((codecError_returned hst _).of_taken rfl List.suffix_rfl)
  · exact .inr ⟨.inr rfl, rfl, rfl⟩
  · exact .inr (dataByte_continues _ ha)

/-- The step that reads a byte. -/
theorem step_reads_byte {b : Byte} {rest : List Byte} (ha : s.activity = .receiving) (hl : s.lineIn = b :: rest) :
    ∃ t, step s = .next t ∧
      (ReceiveReturned { s with lineIn := rest } t ∨ ReceiveContinues { s with lineIn := rest } t) := by
  cases hd : decodeLine b with
  | error x => exact ⟨_, step_of_dataByte ha hl hd, .inr (dataByte_continues b ha)⟩
  | ok i =>
    obtain ⟨t, ht⟩ := exec_isNext i { s with lineIn := rest }
    exact ⟨t, (step_of_lineInstr ha hl hd).trans ht, exec_line_returned_or_continues ha (decodeLine_level hd) ht⟩

/-- The step that looks at a frame; the codec has passed no frame without a control byte. -/
theorem step_looks_at_frame (hf : FrameOk s) (ha : s.activity = .frameEnd) :
    ∃ t, step s = .next t ∧ ReceiveReturned s t := by
  obtain ⟨c, rest, hc⟩ := List.exists_cons_of_length_pos (Nat.zero_lt_of_lt (hf.length_low ha))
  cases hd : decodeControl c with
  | error x =>
    -- a control byte of no type is treated as an RSTACK is: class INVALID
    exact ⟨_, step_of_unassigned ha hc hd, exec_control_returned (i := .rstack) rfl rfl⟩
  | ok i =>
    obtain ⟨t, ht⟩ := exec_isNext i s
    exact ⟨t, (step_of_frameInstr ha hc hd).trans ht, exec_control_returned (decodeControl_level hd) ht⟩

end

/-- A run inside `receive`: each byte is one step, and the last of them may leave a frame to look at, or the end of the
stream to find. -/
theorem receive_run {bytes : List Byte} {s : State} (h : EngineInv s) (ha : s.activity = .receiving)
    (hl : s.lineIn = bytes) : ∃ k t, k ≤ bytes.length + 2 ∧ runSteps k s = .next t ∧ ReceiveReturned s t := by
  induction bytes generalizing s with
  | nil => exact ⟨1, _, by simp, runSteps_succ (step_of_noByte ha hl) 0, receiveNoByte_returned s⟩
  | cons b rest ih =>
    have htaken : rest <:+ s.lineIn := hl ▸ List.suffix_cons b rest
    obtain ⟨u, hu, hret | hgo⟩ := step_reads_byte ha hl
    · exact ⟨1, u, by simp, runSteps_succ hu 0, hret.of_taken rfl htaken⟩
    have hinv := stepKeepsEngineInv s u h hu
    have hsuffix : u.lineIn <:+ s.lineIn := hgo.lineIn ▸ htaken
    rcases hgo.activity with ha' | ha'
    · obtain ⟨k, t, hk, hrun, ht⟩ := ih hinv ha' hgo.lineIn
      exact ⟨k + 1, t, Nat.succ_le_succ hk, (runSteps_succ hu k).trans hrun, ht.of_taken hgo.returns hsuffix⟩
    · obtain ⟨t, hstep, ht⟩ := step_looks_at_frame hinv.frame ha'
      exact ⟨2, t, by simp, (runSteps_succ hu 1).trans (runSteps_succ hstep 0), ht.of_taken hgo.returns hsuffix⟩

/-- Settles O56: by induction on the bytes ready. -/
theorem receiveReturns : Obligations.ReceiveReturns := by
  intro s h ha
  obtain ⟨k, t, hk, hrun, ht⟩ := receive_run h ha rfl
  obtain ⟨taken, htaken⟩ := ht.taken
  exact ⟨k, t, hk, hrun, ht.idle, ht.returns, taken, htaken.symm⟩

/-! ### `sendExec` returns (46_operations.md R353, R357) -/

section
variable {s t u : State} {fatal : Bool}

/-- Under the invariant, with no CANCEL byte owed, the frame in progress can go on to its end. -/
theorem frameLeft_of_engineInv (h : EngineInv s) (hc : s.can = false) :
    FrameLeft (txWire s.cfg.toRawParams s.enc) s :=
  have hready : EncReady s.enc := ⟨h.encoder.body_left, h.encoder.done_no_esc⟩
  { can := hc
    ready := hready
    wire := rfl
    idle_iff := h.encoder.idle_iff_done.trans (txWire_eq_nil_iff _ hready).symm
    entry := fun hs hnil => by simpa [hnil] using h.sending.data_head hs }

/-- A frame in progress has a next byte to write. -/
theorem FrameLeft.continueFrame_isOk {left : List Byte} (h : FrameLeft left s) (hs : s.sendState ≠ .idle) :
    ∃ r t, continueFrame s = .ok (r, t) := by
  obtain ⟨b, rest, rfl⟩ := List.exists_cons_of_ne_nil (h.idle_iff.not.mp hs)
  obtain ⟨t, ht, -⟩ := continueFrame_frameLeft h
  exact ⟨.sent, t, ht⟩

/-- Under the invariant a call of `sendStep` violates no precondition (42_arq_transmit.md R230). -/
theorem sendStep_isOk (h : EngineInv s) : ∃ r t, sendStep s = .ok (r, t) := by
  cases hc : s.can with
  | true => exact ⟨_, _, sendStep_of_can hc⟩
  | false =>
    by_cases hs : s.sendState = .idle
    · cases hsel : selectNext (housekeeping s) with
      | none => exact ⟨_, _, sendStep_of_none hc hs hsel⟩
      | some sel =>
        have hd : (housekeeping s).enc.phase = .done := by
          rw [housekeeping_enc]
          exact h.encoder.idle_iff_done.mp hs
        have he := entryThere_of_selectNext h hsel
        have hframe := started_frameLeft ((housekeeping_can s).trans hc) he
        rw [sendStep_of_selected hc hs hsel (startFrame_eq_started hd he)]
        exact hframe.continueFrame_isOk (started_sendState_ne_idle sel _)
    · rw [sendStep_of_sending hc hs]
      exact (frameLeft_of_engineInv h hc).continueFrame_isOk hs

/-- From `s` to `t` answers of the driver are used up, and at most one byte is written for each true one. -/
def WritesWithin (s t : State) : Prop :=
  ∃ used out, s.wrAnswers = used ++ t.wrAnswers ∧ t.lineOut = s.lineOut ++ out ∧ out.length ≤ used.count true

theorem WritesWithin.trans (h : WritesWithin s u) (h' : WritesWithin u t) : WritesWithin s t := by
  obtain ⟨used, out, hw, hout, hlen⟩ := h
  obtain ⟨used', out', hw', hout', hlen'⟩ := h'
  refine ⟨used ++ used', out ++ out', by simp [hw, hw'], by simp [hout, hout'], ?_⟩
  rw [List.length_append, List.count_append]
  exact Nat.add_le_add hlen hlen'

/-- Answers used up with nothing written. -/
theorem WritesWithin.of_silent (used : List Bool) (hw : s.wrAnswers = used ++ t.wrAnswers)
    (hout : t.lineOut = s.lineOut) : WritesWithin s t :=
  ⟨used, [], hw, by simpa using hout, Nat.zero_le _⟩

/-- One call of `sendStep` after a true answer. -/
theorem sendStep_writesWithin {answers : List Bool} {r : SendResult} (hw : s.wrAnswers = true :: answers)
    (h : sendStep (withAnswers answers s) = .ok (r, t)) : WritesWithin s t := by
  obtain ⟨-, -, hanswers, out, hout, hlen⟩ := sendStep_environment h
  exact ⟨[true], out, hanswers ▸ hw, hout, hlen⟩

/-- From `s` to `t` `sendExec` has returned: one status, FATAL_TIMEOUTS exactly if its polling took the link down. -/
structure SendExecReturned (fatal : Bool) (s t : State) : Prop where
  idle : t.activity = .idle
  returns : ∃ st, t.returns = s.returns ++ [.sendExec st] ∧ (st = .fatalTimeouts ↔ fatal = true)
  written : WritesWithin s t

theorem noRoomStatus_fatal_iff (fatal : Bool) (s : State) : noRoomStatus fatal s = .fatalTimeouts ↔ fatal = true := by
  cases fatal with
  | true => simp [noRoomStatus]
  | false => simp only [noRoomStatus, Bool.false_eq_true, if_false]; split <;> simp

theorem nothingStatus_fatal_iff (fatal : Bool) : nothingStatus fatal = .fatalTimeouts ↔ fatal = true := by
  cases fatal <;> simp [nothingStatus]

/-- The end of `sendExec` after what it wrote. -/
theorem finish_sendExec_returned {st : Status} (hst : st = .fatalTimeouts ↔ fatal = true)
    (hr : u.returns = s.returns) (hw : WritesWithin s u) : SendExecReturned fatal s (finish (.sendExec st) u) where
  idle := rfl
  returns := ⟨st, congrArg (· ++ [Return.sendExec st]) hr, hst⟩
  written := hw

end

/-- A run inside `sendExec`: each answer is one step, and the first that is not true, or the end of the answers, ends
it. -/
theorem sendExec_run {answers : List Bool} {s : State} {fatal : Bool} (h : EngineInv s)
    (ha : s.activity = .sending fatal) (hw : s.wrAnswers = answers) :
    ∃ k t, k ≤ answers.length + 1 ∧ runSteps k s = .next t ∧ SendExecReturned fatal s t := by
  induction answers generalizing s with
  | nil =>
    exact ⟨1, _, by simp, runSteps_succ (step_of_noAnswer ha hw) 0,
      finish_sendExec_returned (noRoomStatus_fatal_iff fatal s) rfl (.of_silent [] rfl rfl)⟩
  | cons answer answers ih =>
    cases answer with
    | false =>
      exact ⟨1, _, by simp, runSteps_succ (step_of_noRoom ha hw) 0,
        finish_sendExec_returned (noRoomStatus_fatal_iff fatal s) rfl (.of_silent [false] hw rfl)⟩
    | true =>
      have hinv : EngineInv (withAnswers answers s) := h.withInputs _ answers _ _
      obtain ⟨r, u, hu⟩ := sendStep_isOk hinv
      have hwritten := sendStep_writesWithin hw hu
      obtain ⟨-, hret⟩ := sendStep_receiver hu
      cases r with
      | nothingToSend =>
        exact ⟨1, _, by simp, runSteps_succ (step_of_nothingToSend ha hw hu) 0,
          finish_sendExec_returned (nothingStatus_fatal_iff fatal) hret hwritten⟩
      | sent =>
        obtain ⟨-, -, hanswers, -⟩ := sendStep_environment hu
        obtain ⟨k, t, hk, hrun, ht⟩ :=
          ih (hinv.sendStep hu) ((sendStep_keepsReception hu).activity.trans ha) hanswers
        exact ⟨k + 1, t, Nat.succ_le_succ hk, (runSteps_succ (step_of_sent ha hw hu) k).trans hrun,
          ht.idle, hret ▸ ht.returns, hwritten.trans ht.written⟩

/-- Settles O57: by induction on the answers of the driver. -/
theorem sendExecReturns : Obligations.SendExecReturns := by
  intro s fatal h ha
  obtain ⟨k, t, hk, hrun, ht⟩ := sendExec_run h ha rfl
  obtain ⟨st, hret, hst⟩ := ht.returns
  exact ⟨k, t, st, hk, hrun, ht.idle, hret, hst, ht.written⟩

/-! ### `send` (46_operations.md R351) -/

section
variable {s : State} {payload : Payload} {high : Bool}

theorem send_of_notConnected (hc : s.connected = false) : send payload high s = finish (.send .notConnected) s :=
  if_pos hc

theorem send_of_tooLong (hc : s.connected = true) (hl : s.cfg.maxDataLen < payload.length) :
    send payload high s = finish (.send .dataTooLong) s := by
  simp only [send, hc, Bool.true_eq_false, if_false, hl, if_true]

theorem send_of_full (hc : s.connected = true) (hl : payload.length ≤ s.cfg.maxDataLen)
    (hf : s.cfg.nTxSlots ≤ slotsUsed s) : send payload high s = finish (.send .noTxSpace) s := by
  simp only [send, hc, Bool.true_eq_false, if_false, Nat.not_lt.mpr hl, hf, if_true]

/-- With a free slot the payload joins the queue of its priority. -/
theorem send_of_room (hc : s.connected = true) (hl : payload.length ≤ s.cfg.maxDataLen)
    (hf : slotsUsed s < s.cfg.nTxSlots) : send payload high s =
      if high then finish (.send .ok) { s with txHigh := s.txHigh ++ [payload] }
      else finish (.send .ok) { s with txNorm := s.txNorm ++ [payload] } := by
  simp only [send, hc, Bool.true_eq_false, if_false, Nat.not_lt.mpr hl, Nat.not_le.mpr hf, enqueue]

/-- A payload of legal length is taken exactly when Connected with a free slot. -/
theorem send_returns_ok_iff (hl : payload.length ≤ s.cfg.maxDataLen) :
    (send payload high s).returns = s.returns ++ [.send .ok] ↔ s.connected = true ∧ slotsUsed s < s.cfg.nTxSlots := by
  cases hc : s.connected with
  | false => simp [send_of_notConnected hc]
  | true =>
    by_cases hf : slotsUsed s < s.cfg.nTxSlots
    · rw [send_of_room hc hl hf]
      cases high <;> simp [hf]
    · simp [send_of_full hc hl (Nat.le_of_not_lt hf), hf]

end

/-- Settles O42: `send` case by case. -/
theorem sendOutcomes : Obligations.SendOutcomes := by
  intro s payload high rest ha hs returned
  have hsend {t : State} (h : send payload high { s with script := rest } = t) : step s = .next t :=
    (step_of_event ha hs).trans (congrArg Host.Outcome.next h)
  by_cases hc : s.connected = false
  · rw [if_pos hc]
    exact hsend (send_of_notConnected hc)
  rw [if_neg hc]
  have hc : s.connected = true := by simpa using hc
  split
  · next hl => exact hsend (send_of_tooLong hc hl)
  next hl =>
  have hl := Nat.le_of_not_lt hl
  split
  · next hf => exact hsend (send_of_full hc hl hf)
  next hf =>
  cases high <;> exact hsend (send_of_room hc hl (Nat.lt_of_not_le hf))

/-! ### The queries and `rxRelease` (46_operations.md R354 to R356) -/

theorem txSpaceAvailable_iff (s : State) :
    txSpaceAvailable s = true ↔ s.connected = true ∧ slotsUsed s < s.cfg.nTxSlots := by simp [txSpaceAvailable]

/-- Settles O43: the two queries are the end of an operation on the state as it is. -/
theorem statusQueries : Obligations.StatusQueries := by
  refine ⟨fun s rest ha hs => ⟨txSpaceAvailable s, step_of_event ha hs, txSpaceAvailable_iff s, fun payload high hl => ?_⟩,
    fun s rest ha hs => step_of_event ha hs⟩
  rw [txSpaceAvailable_iff, send_returns_ok_iff hl]

theorem rxRelease_of_free {s : State} (h : s.rxHeld = false) : rxRelease s = s := by
  simp only [rxRelease, h, Bool.false_eq_true, if_false]

theorem rxRelease_of_held {s : State} (h : s.rxHeld = true) : rxRelease s =
    { s with rxHeld := false, rxBuf := freeRxBuf s.freeDraws s.cfg.maxDataLen, freeDraws := s.freeDraws + 1 } :=
  if_pos h

/-- Settles O44: `rxRelease` with the buffer free and with the buffer held. -/
theorem rxReleaseFreesBuffer : Obligations.RxReleaseFreesBuffer := by
  intro s rest ha hs u
  have hrelease {t : State} (h : rxRelease { s with script := rest } = t) : step s = .next (finish .rxRelease t) :=
    (step_of_event ha hs).trans (congrArg (Host.Outcome.next ∘ finish .rxRelease) h)
  exact ⟨fun hfree => hrelease (rxRelease_of_free hfree), fun hheld =>
    ⟨_, _, freeRxBuf_length s.freeDraws s.cfg.maxDataLen, hrelease (rxRelease_of_held hheld)⟩⟩

end Sys2Proof.Laws
end

section
/-! SUPPORT. The engine is never stuck: the statement O50 of the family 60_exceptions.md. -/

namespace Sys2Proof.Laws

open Sys2Proof.Machine Sys2Proof.Safety

/-- One pass of `sendExec` ends in a fault only if its `sendStep` does, and under the invariant that one does not. -/
theorem step_sending_isNext {s : State} {fatal : Bool} (h : EngineInv s) (ha : s.activity = .sending fatal) :
    ∃ t, step s = .next t := by
  match hw : s.wrAnswers with
  | [] => exact ⟨_, step_of_noAnswer ha hw⟩
  | false :: answers => exact ⟨_, step_of_noRoom ha hw⟩
  | true :: answers =>
    obtain ⟨r, u, hu⟩ := sendStep_isOk (h.withInputs s.lineIn answers s.resetReasonIn s.script)
    cases r with
    | sent => exact ⟨_, step_of_sent ha hw hu⟩
    | nothingToSend => exact ⟨_, step_of_nothingToSend ha hw hu⟩

/-- Progress, by the part of an operation the step runs. The invariant excludes the two ways to a fault: `frameEnd` with
no frame (`frameMissing`), and a `sendStep` whose precondition is violated. -/
theorem step_isNext {s : State} (h : EngineInv s) : ∃ t, step s = .next t := by
  cases ha : s.activity with
  | idle => exact ⟨_, step_of_idle ha⟩
  | receiving =>
    cases hl : s.lineIn with
    | nil => exact ⟨_, step_of_noByte ha hl⟩
    | cons b rest =>
      obtain ⟨t, ht, -⟩ := step_reads_byte ha hl
      exact ⟨t, ht⟩
  | frameEnd =>
    obtain ⟨t, ht, -⟩ := step_looks_at_frame h.frame ha
    exact ⟨t, ht⟩
  | sending fatal => exact step_sending_isNext h ha

/-- Progress and preservation, along a run. -/
theorem runSteps_isNext (k : Nat) {s : State} (h : EngineInv s) : ∃ t, runSteps k s = .next t ∧ EngineInv t := by
  induction k generalizing s with
  | zero => exact ⟨s, rfl, h⟩
  | succ k ih =>
    obtain ⟨u, hu⟩ := step_isNext h
    rw [runSteps_succ hu k]
    exact ih (stepKeepsEngineInv s u h hu)

/-- Settles O50: every instruction answers a next state, and a run by induction on its steps, each of which makes progress
and keeps the invariant. -/
theorem stepNeverStops : Obligations.StepNeverStops :=
  ⟨exec_isNext, fun _ h k => runSteps_isNext k h⟩

end Sys2Proof.Laws
end

section
/-! SUPPORT. The decoder fed with the bytes of one frame, from the first to the FLAG: the statement O10 of
40_codec.md R171. -/

namespace Sys2Proof.Laws

open Sys2Proof.Machine Sys2Proof.Safety

/-! ### Steps inside `receive` -/

/-- `n` steps lead from `s` to `t`; before the last of them `receive` is still reading, and nothing has returned. -/
structure ReadsFor (n : Nat) (s t : State) : Prop where
  run : runSteps n s = .next t
  returns : t.returns = s.returns
  before : ∀ k < n, ∃ u, runSteps k s = .next u ∧ u.activity = .receiving ∧ u.returns = s.returns

theorem ReadsFor.zero (s : State) : ReadsFor 0 s s := ⟨rfl, rfl, nofun⟩

section
variable {s t u : State}

theorem ReadsFor.one (ha : s.activity = .receiving) (h : step s = .next t) (hr : t.returns = s.returns) :
    ReadsFor 1 s t where
  run := runSteps_succ h 0
  returns := hr
  before k hk := by
    obtain rfl : k = 0 := by omega
    exact ⟨s, rfl, ha, rfl⟩

theorem ReadsFor.trans {m n : Nat} (h : ReadsFor m s u) (h' : ReadsFor n u t) : ReadsFor (m + n) s t where
  run := (runSteps_add m n s u h.run).trans h'.run
  returns := h'.returns.trans h.returns
  before k hk := by
    by_cases hkm : k < m
    · exact h.before k hkm
    · obtain ⟨j, rfl⟩ := Nat.exists_eq_add_of_le (Nat.le_of_not_lt hkm)
      obtain ⟨v, hv, hact, hret⟩ := h'.before j (by omega)
      exact ⟨v, (runSteps_add m j s u h.run).trans hv, hact, hret.trans h.returns⟩

end

/-! ### A frame in assembly (40_codec.md R162, R166 to R168) -/

/-- The state `s` once the frame bytes `f` have been stored, `left` is left of the line and `esc` says whether an ESCAPE
is pending; `buf` is what storage has made of the buffer. The first byte stored took `rxHeld` into `decDrop`. -/
def assembling (f : List Byte) (esc : Bool) (left buf : List Byte) (s : State) : State :=
  { s with
    lineIn := left
    dec := { frame := f, esc := esc, err := false, ovf := false, drop := if f = [] then s.dec.drop else s.rxHeld }
    rxBuf := buf }

theorem eq_of_betweenFrames {d : Decoder} (h : betweenFrames d) :
    d = { frame := [], esc := false, err := false, ovf := false, drop := d.drop } := by
  obtain ⟨hframe, hesc, herr, hovf⟩ := h
  cases d
  cases hframe
  cases hesc
  cases herr
  cases hovf
  rfl

section
variable {s : State} {f left buf : List Byte} {b v : Byte}

/-- A decoder between frames has assembled nothing; the invariant excludes an overflow without a frame. -/
theorem assembling_nil (h : DecoderOk s) (hd : decActive s.dec = false) :
    assembling [] false s.lineIn s.rxBuf s = s := by
  obtain ⟨hframe, herr, hesc⟩ : s.dec.frame = [] ∧ s.dec.err = false ∧ s.dec.esc = false := by
    simpa [not_or] using mt (decActive_iff s.dec).mpr (by simp [hd])
  have hovf : s.dec.ovf = false := by
    by_contra ho
    simpa [hframe, RawParams.maxFrameLen] using h.ovf_full (by simpa using ho)
  simp only [assembling, if_true, ← eq_of_betweenFrames ⟨hframe, hesc, herr, hovf⟩]

theorem step_assembling_of_instr {esc : Bool} {i : Instr} (ha : s.activity = .receiving) (hd : decodeLine b = .ok i) :
    step (assembling f esc (b :: left) buf s) = exec i (assembling f esc left buf s) :=
  step_of_lineInstr (s := assembling f esc (b :: left) buf s) ha rfl hd

theorem step_assembling_of_data {esc : Bool} {x : NotAnInstr} (ha : s.activity = .receiving)
    (hd : decodeLine b = .error x) :
    step (assembling f esc (b :: left) buf s) = .next (dataByte b (assembling f esc left buf s)) :=
  step_of_dataByte (s := assembling f esc (b :: left) buf s) ha rfl hd

/-- A data byte is stored, unstuffed if an ESCAPE is pending. -/
theorem dataByte_assembling (esc : Bool) (hlen : f.length < s.cfg.maxFrameLen) :
    ∃ buf', dataByte b (assembling f esc left buf s) =
      assembling (f ++ [if esc then b ^^^ 0x20#8 else b]) false left buf' s := by
  have hstored := (dataByte_of_noErr b (s := assembling f esc left buf s) rfl).trans (if_pos hlen)
  refine ⟨(dataByte b (assembling f esc left buf s)).rxBuf, ?_⟩
  rw [hstored]
  by_cases hf : f = [] <;> simp [assembling, hf]

/-- On the line every byte but the six stuffed ones and a WAKE between frames is a data byte. -/
theorem reads_plainByte {esc : Bool} (ha : s.activity = .receiving) (hb : isStuffed b = false)
    (hwake : b = 0xFF#8 → f ≠ []) (hlen : f.length < s.cfg.maxFrameLen) :
    ∃ buf', ReadsFor 1 (assembling f esc (b :: left) buf s)
      (assembling (f ++ [if esc then b ^^^ 0x20#8 else b]) false left buf' s) := by
  obtain ⟨buf', hdata⟩ := dataByte_assembling (b := b) (left := left) (buf := buf) esc hlen
  refine ⟨buf', .one ha ?_ rfl⟩
  by_cases hff : b = 0xFF#8
  · subst hff
    have hactive : decActive (assembling f esc left buf s).dec = true := (decActive_iff _).mpr (.inl (hwake rfl))
    rw [step_assembling_of_instr ha rfl, exec_wake_of_active hactive, hdata]
  · have hmem := mt (isStuffed_iff b).mpr (by simp [hb])
    have hline : decodeLine b = .error .dataByte := decodeLine_of_not_mem (by simp_all)
    rw [step_assembling_of_data ha hline, hdata]

/-- An ESCAPE is noted. -/
theorem reads_escape (ha : s.activity = .receiving) :
    ReadsFor 1 (assembling f false (0x7D#8 :: left) buf s) (assembling f true left buf s) :=
  .one ha ((step_assembling_of_instr ha rfl).trans (exec_escape _)) rfl

/-- The second byte of a stuffed pair is not a WAKE. -/
theorem xor_ne_wake (h : isStuffed v = true) : v ^^^ 0x20#8 ≠ 0xFF#8 := by
  rw [isStuffed_iff] at h
  revert v
  decide

/-- The line bytes of one frame byte put that byte into the frame, whether it is stuffed or not. -/
theorem reads_stuffByte (ha : s.activity = .receiving) (hwake : v = 0xFF#8 → f ≠ [])
    (hlen : f.length < s.cfg.maxFrameLen) :
    ∃ buf', ReadsFor (stuffByte v).length (assembling f false (stuffByte v ++ left) buf s)
      (assembling (f ++ [v]) false left buf' s) := by
  unfold stuffByte
  split
  · next hv =>
    obtain ⟨buf', h⟩ := reads_plainByte (esc := true) (left := left) (buf := buf) ha (isStuffed_xor hv)
      (fun hff => absurd hff (xor_ne_wake hv)) hlen
    rw [if_pos rfl, BitVec.xor_assoc, BitVec.xor_self, BitVec.xor_zero] at h
    exact ⟨buf', (reads_escape ha).trans h⟩
  · next hv => exact reads_plainByte ha (eq_false_of_ne_true hv) hwake hlen

/-- The line bytes of a sequence put that sequence into the frame, as long as it fits. -/
theorem reads_stuff {l : List Byte} (ha : s.activity = .receiving) (hwake : l.head? = some 0xFF#8 → f ≠ [])
    (hlen : f.length + l.length ≤ s.cfg.maxFrameLen) :
    ∃ buf', ReadsFor (stuff l).length (assembling f false (stuff l ++ left) buf s)
      (assembling (f ++ l) false left buf' s) := by
  induction l generalizing f buf with
  | nil =>
    rw [List.append_nil]
    exact ⟨buf, .zero _⟩
  | cons v l ih =>
    rw [List.length_cons] at hlen
    obtain ⟨buf₁, h₁⟩ := reads_stuffByte (left := stuff l ++ left) (buf := buf) ha
      (fun hv => hwake (congrArg some hv)) (by omega)
    obtain ⟨buf₂, h₂⟩ := ih (f := f ++ [v]) (buf := buf₁) (by simp)
      (by rw [List.length_append, List.length_singleton]; omega)
    rw [List.append_assoc, List.singleton_append] at h₂
    rw [stuff_cons, List.append_assoc, List.length_append]
    exact ⟨buf₂, h₁.trans h₂⟩

/-! ### The FLAG (40_codec.md R157, R158) -/

/-- A frame that passes the tests of R157 and R158 is handed on. -/
theorem exec_flag_of_good (herr : s.dec.err = false) (hovf : s.dec.ovf = false) (hlen : 3 ≤ s.dec.frame.length)
    (hcrc : crcGood s.cfg.toRawParams s.dec.frame = true) :
    exec .flag s = .next { s with dec := decClear s.dec, activity := .frameEnd, rxFrame := s.dec.frame } := by
  have hpos : s.dec.frame.length ≠ 0 := by omega
  simp [exec, execFlag, herr, hovf, hcrc, hpos, Nat.not_lt.mpr hlen]

/-- The state `s` once the frame `f` has been handed on and `left` is left of the line. -/
def handedOn (f left buf : List Byte) (s : State) : State :=
  { s with
    lineIn := left, activity := .frameEnd, rxFrame := f
    dec := { frame := [], esc := false, err := false, ovf := false, drop := s.rxHeld }
    rxBuf := buf }

theorem reads_flag (ha : s.activity = .receiving) (hlen : 3 ≤ f.length)
    (hcrc : crcGood s.cfg.toRawParams f = true) :
    ReadsFor 1 (assembling f false (0x7E#8 :: left) buf s) (handedOn f left buf s) := by
  have hne : f ≠ [] := List.ne_nil_of_length_pos (by omega)
  refine .one ha ?_ rfl
  rw [step_assembling_of_instr ha rfl, exec_flag_of_good rfl rfl hlen hcrc]
  simp only [assembling, handedOn, decClear, if_neg hne]

/-- The bytes of `encodeFrame(body)` hand the body and its CRC on. -/
theorem reads_encodeFrame {body rest : List Byte} (ha : s.activity = .receiving) (hpos : 1 ≤ body.length)
    (hlen : body.length ≤ s.cfg.maxDataLen + 1) (hwake : body.head? ≠ some 0xFF#8) :
    ∃ buf', ReadsFor (encodeFrame s.cfg.toRawParams body).length
      (assembling [] false (encodeFrame s.cfg.toRawParams body ++ rest) buf s)
      (handedOn (body ++ crcBytes s.cfg.toRawParams body) rest buf' s) := by
  have hframe : (body ++ crcBytes s.cfg.toRawParams body).length = body.length + 2 := List.length_append
  have hhead : (body ++ crcBytes s.cfg.toRawParams body).head? = body.head? :=
    List.head?_append_of_ne_nil _ (List.ne_nil_of_length_pos hpos)
  have hcrc : crcGood s.cfg.toRawParams (body ++ crcBytes s.cfg.toRawParams body) = true :=
    (crcGood_append_pair _ _ _ _).mpr ⟨rfl, rfl⟩
  obtain ⟨buf', h⟩ := reads_stuff (f := []) (left := 0x7E#8 :: rest) (buf := buf)
    (l := body ++ crcBytes s.cfg.toRawParams body) ha (fun hff => absurd (hhead ▸ hff) hwake)
    (by rw [hframe, List.length_nil, RawParams.maxFrameLen]; omega)
  rw [encodeFrame, List.length_append, List.append_assoc]
  exact ⟨buf', h.trans (reads_flag ha (by rw [List.nil_append, hframe]; omega) hcrc)⟩

end

/-- Settles O10: byte by byte of the frame, each of which takes one or two line bytes, and then the FLAG. -/
theorem lineRoundTrip : Obligations.LineRoundTrip := by
  intro s body rest hinv ha hd hpos hlen hwake hline
  obtain ⟨buf, h⟩ := reads_encodeFrame (rest := rest) (buf := s.rxBuf) ha hpos hlen hwake
  rw [← hline, assembling_nil hinv.decoder hd] at h
  exact ⟨h.before, _, h.run, rfl⟩

end Sys2Proof.Laws
end

section
/-! SUPPORT. What a step delivers and what it does to `frmRx`: the statement O29 of 41_arq_receive.md R208. -/

namespace Sys2Proof.Laws

open Sys2Proof.Machine Sys2Proof.Safety

/-! ### The payloads among the returns -/

theorem deliveries_cons_of_nothing {r : Return} (l : List Return) (h : ∀ p, r ≠ .receive .ok (some p)) :
    deliveries (r :: l) = deliveries l := by
  simp only [deliveries]

theorem deliveries_append (l m : List Return) : deliveries (l ++ m) = deliveries l ++ deliveries m := by
  induction l with
  | nil => rfl
  | cons r l ih =>
    rw [List.cons_append]
    by_cases h : ∃ p, r = .receive .ok (some p)
    · obtain ⟨p, rfl⟩ := h
      rw [deliveries, deliveries, ih, List.cons_append]
    · have hr := not_exists.mp h
      rw [deliveries_cons_of_nothing _ hr, deliveries_cons_of_nothing _ hr, ih]

/-- What an operation returns that delivers nothing. -/
theorem deliveries_append_single {r : Return} (l : List Return) (h : ∀ p, r ≠ .receive .ok (some p)) :
    deliveries (l ++ [r]) = deliveries l := by
  rw [deliveries_append, deliveries_cons_of_nothing _ h]
  exact List.append_nil _

theorem deliveries_append_payload (l : List Return) (p : Payload) :
    deliveries (l ++ [.receive .ok (some p)]) = deliveries l ++ [p] := deliveries_append l _

/-! ### Steps that deliver nothing -/

/-- `frmRx` stays, or goes to 0 with the link not Connected. -/
def FrmRxStays (s t : State) : Prop := t.frmRx = s.frmRx ∨ (t.frmRx = 0#3 ∧ t.connected = false)

/-- Nothing is delivered, and `frmRx` does not count. -/
structure CountsNothing (s t : State) : Prop where
  deliveries : deliveries t.returns = deliveries s.returns
  frmRx : FrmRxStays s t

/-- A DATA frame numbered `frmRx` is delivered and counted. -/
structure CountsFrame (i : Instr) (s t : State) : Prop where
  connected : s.connected = true
  instr : ∃ r a, i = .data s.frmRx r a
  deliveries : deliveries t.returns = deliveries s.returns ++ [framePayload s.rxFrame]
  frmRx : t.frmRx = inc8 s.frmRx

section
variable {s t u : State}

theorem CountsNothing.of_noReturn (hr : t.returns = s.returns) (hf : FrmRxStays s t) : CountsNothing s t :=
  ⟨congrArg _ hr, hf⟩

theorem CountsNothing.of_return {r : Return} (hr : t.returns = s.returns ++ [r])
    (hn : ∀ p, r ≠ .receive .ok (some p)) (hf : FrmRxStays s t) : CountsNothing s t :=
  ⟨hr ▸ deliveries_append_single _ hn, hf⟩

/-- `receive` returns without a payload. -/
theorem CountsNothing.of_status {st : Status} (hr : t.returns = s.returns ++ [.receive st none])
    (hf : FrmRxStays s t) : CountsNothing s t := .of_return hr (by simp) hf

theorem LineByteWrites.frmRx_eq (h : LineByteWrites s t) : t.frmRx = s.frmRx := by
  unfold LineByteWrites at h
  rw [h]

theorem exec_line_countsNothing {i : Instr} (hl : i.level = .line) (h : exec i s = .next t) : CountsNothing s t := by
  have hf : FrmRxStays s t := .inl (exec_line_writes hl h).frmRx_eq
  rcases exec_line_cases hl h with ⟨d, x, rfl, -⟩ | ⟨st, -, rfl⟩ | ⟨-, -, -, -, -, rfl⟩ | ⟨-, -, rfl⟩
  · exact .of_noReturn rfl hf
  · exact .of_status (codecError_returns st _) hf
  · exact .of_noReturn rfl hf
  · obtain ⟨d, buf, hb⟩ := dataByte_form 0xFF#8 s
    exact .of_noReturn (by rw [hb]) hf

theorem dataByte_countsNothing (b : Byte) (s : State) : CountsNothing s (dataByte b s) := by
  obtain ⟨d, buf, h⟩ := dataByte_form b s
  rw [h]
  exact .of_noReturn rfl (.inl rfl)

theorem notConnected_countsNothing (cls : FrameClass) (s : State) : CountsNothing s (notConnected cls s) := by
  obtain ⟨st, e, pe, -, h⟩ := notConnected_form cls s
  rw [h]
  exact .of_status rfl (.inl rfl)

theorem rejectedFrame_countsNothing (st : Status) (s : State) :
    CountsNothing s (finishReceive st none (reject s)) := by
  rw [reject_form]
  exact .of_status rfl (.inl rfl)

theorem invalidFrame_countsNothing (s : State) : CountsNothing s (invalidFrame s) := by
  rcases invalidFrame_cases s with ⟨-, h⟩ | ⟨-, h⟩ <;> rw [h]
  · exact notConnected_countsNothing _ s
  · exact rejectedFrame_countsNothing _ s

/-! ### Received frames (41_arq_receive.md R203 to R208) -/

theorem dataReceived_counts {f : SeqNum} {r : Bool} {a : SeqNum} (hc : s.connected = true) :
    CountsFrame (.data f r a) s (dataReceived f r s) ∨ CountsNothing s (dataReceived f r s) := by
  rcases dataReceived_cases f r s with ⟨rfl, -, h⟩ | ⟨st, rj, nk, ak, -, -, h⟩ <;> rw [h]
  · exact .inl ⟨hc, ⟨r, a, rfl⟩, deliveries_append_payload _ _, rfl⟩
  · exact .inr (.of_status rfl (.inl rfl))

/-- A received frame is delivered and counted, or neither; the link resets put `frmRx` to 0. -/
theorem exec_control_counts {i : Instr} (hl : i.level = .control) (h : exec i s = .next t) :
    CountsFrame i s t ∨ CountsNothing s t := by
  rcases exec_control_cases hl h with ⟨-, -, rfl⟩ | ⟨-, -, -, rfl⟩ | ⟨-, cls, rfl⟩ | ⟨-, st, -, rfl⟩ |
    ⟨hc, a, u, hu, -, hact⟩
  · exact .inr (.of_status rfl (.inr ⟨rfl, rfl⟩))
  · exact .inr (.of_status rfl (.inr ⟨rfl, rfl⟩))
  · exact .inr (notConnected_countsNothing cls s)
  · exact .inr (rejectedFrame_countsNothing st s)
  · have hframe (huc : u.connected = true) : CountsFrame i u t ∨ CountsNothing u t := by
      rcases hact with ⟨f, r, rfl, rfl⟩ | ⟨p, n, -, rfl⟩ | ⟨p, n, -, rfl⟩
      · exact dataReceived_counts huc
      · exact .inr (.of_status rfl (.inl rfl))
      · obtain ⟨nr, rx, fr, hn⟩ := nakReceived_form n u
        rw [hn]
        exact .inr (.of_status rfl (.inl rfl))
    -- `handleAck` keeps `connected`, `frmRx`, `rxFrame` and `returns`
    rcases hu with ⟨rfl, -⟩ | ⟨rfl, -⟩
    · exact hframe hc
    · exact (hframe hc).imp (fun d => ⟨d.connected, d.instr, d.deliveries, d.frmRx⟩) fun d => ⟨d.deliveries, d.frmRx⟩

/-! ### Events and the transmit sequencer -/

theorem beginSendExec_countsNothing (s : State) : CountsNothing s (beginSendExec s) := by
  unfold beginSendExec
  rcases pollTimers_cases s with ⟨nr, ap, n, rx, fr, ta, h⟩ | ⟨-, -, -, nr, ap, h⟩ <;> rw [h]
  · exact .of_noReturn rfl (.inl rfl)
  · exact .of_noReturn rfl (.inr ⟨rfl, rfl⟩)

theorem runEvent_countsNothing (e : Event) (s : State) : CountsNothing s (runEvent e s) := by
  cases e with
  | send payload high =>
    obtain ⟨st, qh, qn, h⟩ := send_form payload high s
    simp only [runEvent, h]
    exact .of_return rfl nofun (.inl rfl)
  | sendExec => exact beginSendExec_countsNothing s
  | rxRelease =>
    obtain ⟨buf, n, h⟩ := rxRelease_form s
    simp only [runEvent, h]
    exact .of_return rfl nofun (.inl rfl)
  | hwReset => exact .of_noReturn rfl (.inr ⟨rfl, rfl⟩)
  | isTxSpaceAvailable => exact .of_return rfl nofun (.inl rfl)
  | isConnected => exact .of_return rfl nofun (.inl rfl)
  | receive => exact .of_noReturn rfl (.inl rfl)
  | tick d => exact .of_noReturn rfl (.inl rfl)
  | bytesArrive bytes => exact .of_noReturn rfl (.inl rfl)
  | writeAnswers answers => exact .of_noReturn rfl (.inl rfl)
  | setResetReason r => exact .of_noReturn rfl (.inl rfl)

theorem completeFrame_frmRx (h : completeFrame s = .ok t) : t.frmRx = s.frmRx := by
  rcases completeFrame_cases h with ⟨-, -, rfl⟩ | ⟨-, -, rfl⟩ | ⟨-, _, _, -, rfl⟩ | ⟨-, rfl⟩ <;> rfl

theorem continueFrame_frmRx {r : SendResult} (h : continueFrame s = .ok (r, t)) : t.frmRx = s.frmRx := by
  obtain ⟨-, b, e, -, ⟨-, rfl⟩ | ⟨-, hc⟩⟩ := continueFrame_cases h
  · rfl
  · have hkept := completeFrame_frmRx hc
    exact hkept

theorem sendStep_frmRx {r : SendResult} (h : sendStep s = .ok (r, t)) : t.frmRx = s.frmRx := by
  obtain ⟨rx, fr, hk⟩ := housekeeping_form s
  rcases sendStep_cases h with ⟨-, -, rfl⟩ | ⟨-, -, -, -, rfl⟩ | ⟨-, -, sel, u, -, hu, hc⟩ | ⟨-, -, hc⟩
  · rfl
  · rw [hk]
  · obtain ⟨-, i, field, next, er, rt, nk, ak, atx, hi, -, -, -, rfl⟩ := startFrame_cases (hk ▸ hu)
    have hkept := continueFrame_frmRx hc
    exact hkept
  · exact continueFrame_frmRx hc

theorem sendStep_countsNothing {r : SendResult} (h : sendStep s = .ok (r, t)) : CountsNothing s t :=
  .of_noReturn (sendStep_receiver h).2 (.inl (sendStep_frmRx h))

/-- The taking of inputs before a part of an operation neither delivers nor counts. -/
theorem CountsNothing.of_inputs {bytes : List Byte} {answers : List Bool} {events : List Event}
    (h : CountsNothing { s with lineIn := bytes, wrAnswers := answers, script := events } t) : CountsNothing s t :=
  ⟨h.deliveries, h.frmRx⟩

/-- `sendExec` returns. -/
theorem CountsNothing.finish (h : CountsNothing s t) (st : Status) :
    CountsNothing s (finish (.sendExec st) t) :=
  ⟨(deliveries_append_single _ (by simp)).trans h.deliveries, h.frmRx⟩

/-! ### The step -/

/-- A step looks at a frame and counts it, or counts nothing. -/
theorem step_counts (h : step s = .next t) :
    (s.activity = .frameEnd ∧ ∃ c rest i, s.rxFrame = c :: rest ∧ decodeControl c = .ok i ∧ CountsFrame i s t) ∨
    CountsNothing s t := by
  rcases step_cases h with ⟨-, -, rfl⟩ | ⟨-, e, rest, -, rfl⟩ | ⟨-, -, rfl⟩ | ⟨-, b, rest, -, -, rfl⟩ |
    ⟨-, b, rest, i, -, hd, hx⟩ | ⟨-, c, rest, -, -, rfl⟩ | ⟨ha, c, rest, i, hf, hd, hx⟩ |
    ⟨fatal, -, answers, -, hs⟩ | ⟨fatal, -, answers, u, -, hs, rfl⟩ | ⟨fatal, -, answers, -, rfl⟩
  · exact .inr (.of_noReturn rfl (.inl rfl))
  · exact .inr (runEvent_countsNothing e { s with script := rest }).of_inputs
  · exact .inr (.of_status rfl (.inl rfl))
  · exact .inr (dataByte_countsNothing b { s with lineIn := rest }).of_inputs
  · exact .inr (exec_line_countsNothing (decodeLine_level hd) hx).of_inputs
  · exact .inr (invalidFrame_countsNothing s)
  · exact (exec_control_counts (decodeControl_level hd) hx).imp_left fun hk => ⟨ha, c, rest, i, hf, hd, hk⟩
  · exact .inr (sendStep_countsNothing hs).of_inputs
  · exact .inr ((sendStep_countsNothing hs).of_inputs.finish _)
  · exact .inr (.of_return rfl nofun (.inl rfl))

end

/-- Settles O29: the frame a step counts is the one whose control byte it decoded. -/
theorem deliveredInOrder : Obligations.DeliveredInOrder := by
  intro s t h
  rcases step_counts h with ⟨ha, c, rest, i, hf, hd, hk⟩ | hk
  · obtain ⟨r, a, rfl⟩ := hk.instr
    exact .inr ⟨ha, hk.connected, ⟨c, rest, r, a, hf, hd⟩, hk.deliveries, hk.frmRx⟩
  · exact .inl ⟨hk.deliveries, hk.frmRx⟩

end Sys2Proof.Laws
end

section
/-! SUPPORT. The bytes that do not stand alone, the values of the default CRC, `receive` without a byte, and the state
after reset: the statements O5, O6, O45, O47 and O48. -/

namespace Sys2Proof.Laws

open Sys2Proof.Machine Sys2Proof.Safety

/-! ### Bytes with two readings (40_codec.md R150, log entry 6) -/

theorem decodeWord_of_line {b : Byte} {i : Instr} (h : decodeLine b = .ok i) : decodeWord b = .ok i := by
  rw [decodeWord, h]

theorem decodeWord_of_dataByte {b : Byte} {x : NotAnInstr} (h : decodeLine b = .error x) :
    decodeWord b = decodeControl b := by
  rw [decodeWord, h]

theorem standsAlone_of_decodeWord {i : Instr} (h : decodeWord (encode i) = .ok i) : i.standsAlone = true := by
  rw [Instr.standsAlone, h]
  exact decide_eq_true rfl

/-- What does not stand alone is a control byte with the value of a line byte. -/
theorem eq_line_of_not_standsAlone {i : Instr} (h : i.standsAlone = false) :
    ∃ j : Instr, j.level = .line ∧ decodeControl (encode j) = .ok i := by
  have hne : decodeWord (encode i) ≠ .ok i := fun hw => by simp [standsAlone_of_decodeWord hw] at h
  have hown := decodeAt_level_encode i
  cases hl : i.level with
  | line =>
    rw [hl] at hown
    exact absurd (decodeWord_of_line hown) hne
  | control =>
    rw [hl] at hown
    cases hd : decodeLine (encode i) with
    | error x => exact absurd ((decodeWord_of_dataByte hd).trans hown) hne
    | ok j =>
      refine ⟨j, decodeLine_level hd, ?_⟩
      rw [encode_of_decodeLine hd]
      exact hown

/-- Settles O5: of the seven line bytes all but WAKE are the control byte of a DATA frame, which the table word then
does not give back. -/
theorem onlySixRowsNeedStuffing : Obligations.OnlySixRowsNeedStuffing := by
  intro i
  constructor
  · intro h
    obtain ⟨j, hj, hi⟩ := eq_line_of_not_standsAlone h
    cases j with
    | data | ack | nak | rst | rstack | error => cases hj
    | xon => cases hi; exact .inl rfl
    | xoff => cases hi; exact .inr (.inl rfl)
    | substitute => cases hi; exact .inr (.inr (.inl rfl))
    | cancel => cases hi; exact .inr (.inr (.inr (.inl rfl)))
    | escape => cases hi; exact .inr (.inr (.inr (.inr (.inl rfl))))
    | flag => cases hi; exact .inr (.inr (.inr (.inr (.inr rfl))))
    | wake => cases hi
  · rintro (rfl | rfl | rfl | rfl | rfl | rfl) <;> rfl

/-! ### The default CRC (40_codec.md R141, R142) -/

theorem crc16_of_default {p : RawParams} (h : p.crc = .ccittFalse) (bytes : List Byte) :
    crc16 p bytes = bytes.foldl ccittStep 0xFFFF#16 := by
  have hstep : crc16Step p = ccittStep := by
    funext crc b
    simp only [crc16Step, h]
  simp only [crc16, crc16Init, hstep, h]

/-- Settles O6: the default CRC is the fold of its step, evaluated on the five sequences. -/
theorem defaultCrcValues : Obligations.DefaultCrcValues := by
  intro p h
  simp only [crc16_of_default h]
  simp [ccittStep, Nat.repeat, crcShift]

/-! ### `receive` (46_operations.md R352) -/

theorem receiveNoByte_eq_received (s : State) : receiveNoByte s =
    received (if s.dec.frame ≠ [] ∨ s.dec.err = true ∨ s.dec.esc = true then .inProgress else .noRxData) none s := by
  simp only [receiveNoByte, decActive_iff]
  exact finishReceive_eq_received _ _ _

/-- Settles O45: the event is one update, and a frame is in progress exactly if one of the three tests of R43 says so. -/
theorem receiveIdleStatuses : Obligations.ReceiveIdleStatuses := fun s =>
  ⟨fun _ ha hs => step_of_event ha hs, fun ha hl =>
    (step_of_noByte ha hl).trans (congrArg _ (receiveNoByte_eq_received s))⟩

/-! ### The state after reset (70_reset_and_hazards.md R411) -/

/-- Settles O47: `State.resetWith` is the table; the period fits its register because the parameters are in range. -/
theorem resetTable : Obligations.ResetTable := fun p =>
  ⟨rfl, ⟨rfl, rfl, rfl, rfl⟩, ⟨rfl, rfl, rfl, rfl⟩, rfl, ⟨rfl, rfl, rfl, rfl, rfl, rfl⟩, rfl, ackTimeInit_fits p,
    ⟨rfl, rfl, rfl⟩, ⟨rfl, rfl, rfl⟩, ⟨rfl, rfl⟩, ⟨rfl, rfl⟩, rfl, rfl, rfl, rfl, rfl, List.length_replicate, rfl⟩

/-- Settles O48: the link is at the start of a connection, the decoder between frames, and no frame waits. -/
theorem engineInvAtReset : Obligations.EngineInvAtReset := fun p =>
  have hlink : LinkOk (State.resetWith p) := linkOk_start (State.resetWith p) Encoder.atReset false false rfl rfl nofun
  hlink.engineInv (.of_betweenFrames ⟨rfl, rfl, rfl, rfl⟩ List.length_replicate) (.of_noFrame nofun rfl)

end Sys2Proof.Laws
end
